-- ==== Sys2Proof/Word.lean ====
section
/-! DEFINITION. The word types of the core and its one compound value, the triple (00_scope.md R11,
10_state.md R14 to R16). -/

namespace Sys2Proof

/-- One channel of an RGB colour or one stored HSV component (10_state.md R14, R15). -/
abbrev Byte := BitVec 8

/-- A buffer index as a command carries it: 16 bits, unsigned (00_scope.md R9). -/
abbrev Index := BitVec 16

/-- One command word (30_encoding.md R45). -/
abbrev CommandWord := BitVec 96

/-- An ordered triple of bytes `(c0, c1, c2)`: (red, green, blue) or (hue, saturation, value)
(00_scope.md R11). Every value of every component can be stored (10_state.md R14, R15). -/
structure Triple where
  c0 : Byte
  c1 : Byte
  c2 : Byte
  deriving DecidableEq, Repr

/-- A triple read as (red, green, blue), 10_state.md R14. -/
abbrev Rgb := Triple

/-- A triple read as (hue, saturation, value), 10_state.md R15. -/
abbrev Hsv := Triple

end Sys2Proof
end

