-- ==== Sys2Proof/Config.lean ====
section
/-! DEFINITION. What the implementation fixes (the four quantization constants) and the values the
spec leaves open (the free draws). The open parameter BUF_LEN stands in State (entry 3). -/

namespace Sys2Proof

/-- Upper bound of the saturation axis (00_scope.md R8, 10_state.md R13). -/
def Config.maxSaturation : Int := 15

/-- Upper bound of the primary value axis (00_scope.md R8, 10_state.md R13). -/
def Config.maxValue : Int := 17

/-- Width of one sixth of the hue wheel (00_scope.md R8, 10_state.md R13). -/
def Config.hueSegment : Int := 16

/-- The hue period, six segments (00_scope.md R8, 10_state.md R13). -/
def Config.hueFull : Int := 96

/-- The largest BUF_LEN (00_scope.md R9). -/
def Config.maxBufLen : Nat := 65536

/-- `any_u24`: the unspecified 24-bit value of draw number n (00_scope.md R11, 93 U1). It has no
body: no proof can see which value it is. DESIGN CHOICE (entry 7): one value per draw number. -/
opaque Config.anyU24 : Nat → BitVec 24

/-- What STEP holds after the reset that is draw number n (10_state.md R30, 93 U5). DESIGN CHOICE
(entry 6). -/
opaque Config.anyStep : Nat → BitVec 16

/-- What the 88 bits of LATCH hold after the reset that is draw number n (10_state.md R30, 93 U5).
DESIGN CHOICE (entry 6). -/
opaque Config.anyLatch : Nat → BitVec 88

end Sys2Proof
end

