-- ==== Sys2Proof/Syntax.lean ====
section
/-! DEFINITION. The commands of the core, one constructor per row of spec/opcode_table.json, and the
ten fields of format C (30_encoding.md R46). -/

namespace Sys2Proof

/-- The four commands with their operands (30_encoding.md R47, R48, R53). The one attached buffer is
implicit (10_state.md R18). -/
inductive Instr where
  /-- CONVERT (h, s, v), 40_convert.md R70. -/
  | convert (hue saturation value : Byte)
  /-- WRPIX idx, (r, g, b), 41_write_pixel.md R82. -/
  | wrpix (index : Index) (color : Rgb)
  /-- FILLHSV si, (h0, s0, v0), ei, (h1, s1, v1), 42_gradient.md R91. -/
  | fillhsv (startIndex : Index) (startHsv : Hsv) (endIndex : Index) (endHsv : Hsv)
  /-- FILLRGB si, (r0, g0, b0), ei, (r1, g1, b1), 42_gradient.md R92. -/
  | fillrgb (startIndex : Index) (startRgb : Rgb) (endIndex : Index) (endRgb : Rgb)
  deriving DecidableEq, Repr

/-- The fields of format C, the most significant first (30_encoding.md R46). -/
structure FormC where
  op  : BitVec 8
  si  : Index
  sc  : Triple
  rsv : BitVec 8
  ei  : Index
  ec  : Triple
  deriving DecidableEq, Repr

/-- The opcode a command has (30_encoding.md R47). -/
inductive Opcode where
  | convert
  | wrpix
  | fillhsv
  | fillrgb
  deriving DecidableEq, Repr

end Sys2Proof
end

