-- ==== Sys2Proof/WellFormed.lean ====
section
/-! DEFINITION. Which fields make a legal command (30_encoding.md R47, R49, R50), and which commands
are well formed (R51: all of them). -/

namespace Sys2Proof

/-- The zero triple, which an unused triple field must hold (30_encoding.md R49). -/
def Triple.zero : Triple := ⟨0, 0, 0⟩

/-- The opcode is one of the four defined ones (30_encoding.md R47). -/
def FormC.opDefined (f : FormC) : Bool :=
  f.op == 1 || f.op == 2 || f.op == 3 || f.op == 4

/-- RSV is zero, as in every command (30_encoding.md R49). -/
def FormC.rsvZero (f : FormC) : Bool :=
  f.rsv == 0

/-- The index field a CONVERT does not take is zero (30_encoding.md R49). -/
def FormC.startIndexUsed (f : FormC) : Bool :=
  f.op != 1 || f.si == 0

/-- The end fields, which CONVERT and WRPIX do not take, are zero (30_encoding.md R49). -/
def FormC.endUsed (f : FormC) : Bool :=
  (f.op != 1 && f.op != 2) || (f.ei == 0 && f.ec == Triple.zero)

/-- The word with these fields is legal: none of the conditions of 30_encoding.md R50 holds. -/
def FormC.legal (f : FormC) : Bool :=
  f.opDefined && f.rsvZero && f.startIndexUsed && f.endUsed

/-- A command is well formed whatever its operands are: "Operand values never make a word illegal"
(30_encoding.md R51). The field widths are those of the types of its operands. -/
def Instr.wellFormed : Instr → Bool
  | .convert _ _ _ => true
  | .wrpix _ _ => true
  | .fillhsv _ _ _ _ => true
  | .fillrgb _ _ _ _ => true

end Sys2Proof
end

