-- ==== Sys2Proof/Decode.lean ====
section
/-! DEFINITION. Decoding of a command word (30_encoding.md R46 to R53), total, rejecting by name, and
the encoder after it (R54). The bit-field helpers of the whole model stand here. -/

namespace Sys2Proof

/-- Why a word is illegal (30_encoding.md R50). -/
inductive DecodeError where
  /-- RSV is not 0. -/
  | reservedFieldNotZero
  /-- A field the command does not take is not 0. -/
  | unusedFieldNotZero
  /-- OP is 0x00 or 0x05 to 0xFF. -/
  | reservedOpcode
  deriving DecidableEq, Repr

/-- `pack24`: the first component in bits 23:16, the second in 15:8, the third in 7:0
(10_state.md R16). -/
def Triple.pack24 (t : Triple) : BitVec 24 :=
  t.c0 ++ t.c1 ++ t.c2

/-- The triple that a 24-bit quantity carries (10_state.md R16). -/
def Triple.unpack24 (b : BitVec 24) : Triple :=
  ⟨b.extractLsb' 16 8, b.extractLsb' 8 8, b.extractLsb' 0 8⟩

/-- The fields of a word (30_encoding.md R46). -/
def FormC.ofWord (w : CommandWord) : FormC where
  op  := w.extractLsb' 88 8
  si  := w.extractLsb' 72 16
  sc  := Triple.unpack24 (w.extractLsb' 48 24)
  rsv := w.extractLsb' 40 8
  ei  := w.extractLsb' 24 16
  ec  := Triple.unpack24 (w.extractLsb' 0 24)

/-- The word with the given fields (30_encoding.md R46). -/
def FormC.toWord (f : FormC) : CommandWord :=
  f.op ++ f.si ++ f.sc.pack24 ++ f.rsv ++ f.ei ++ f.ec.pack24

/-- The command whose fields these are, in the order of tests of 30_encoding.md R53. -/
def FormC.instr (f : FormC) : Except DecodeError Instr :=
  if f.rsv ≠ 0 then .error .reservedFieldNotZero
  else if f.op = 0x01 then
    if f.si = 0 ∧ f.ei = 0 ∧ f.ec = Triple.zero then .ok (.convert f.sc.c0 f.sc.c1 f.sc.c2)
    else .error .unusedFieldNotZero
  else if f.op = 0x02 then
    if f.ei = 0 ∧ f.ec = Triple.zero then .ok (.wrpix f.si f.sc)
    else .error .unusedFieldNotZero
  else if f.op = 0x03 then .ok (.fillhsv f.si f.sc f.ei f.ec)
  else if f.op = 0x04 then .ok (.fillrgb f.si f.sc f.ei f.ec)
  else .error .reservedOpcode

/-- The decoder: it reads the word and no state (30_encoding.md R53, R55). -/
def decode (w : CommandWord) : Except DecodeError Instr :=
  (FormC.ofWord w).instr

/-- The opcode value of 30_encoding.md R47. -/
def Opcode.bits : Opcode → BitVec 8
  | .convert => 0x01
  | .wrpix   => 0x02
  | .fillhsv => 0x03
  | .fillrgb => 0x04

/-- The opcode of a command (30_encoding.md R47). -/
def Instr.opcode : Instr → Opcode
  | .convert _ _ _   => .convert
  | .wrpix _ _       => .wrpix
  | .fillhsv _ _ _ _ => .fillhsv
  | .fillrgb _ _ _ _ => .fillrgb

/-- The fields of a command: its operands in the fields of 30_encoding.md R48, every other field 0
(R49). -/
def Instr.formC : Instr → FormC
  | .convert h s v       => ⟨0x01, 0, ⟨h, s, v⟩, 0, 0, Triple.zero⟩
  | .wrpix idx c         => ⟨0x02, idx, c, 0, 0, Triple.zero⟩
  | .fillhsv si sc ei ec => ⟨0x03, si, sc, 0, ei, ec⟩
  | .fillrgb si sc ei ec => ⟨0x04, si, sc, 0, ei, ec⟩

/-- The encoder (30_encoding.md R54). -/
def encode (i : Instr) : CommandWord :=
  i.formC.toWord

/-- `SOLIDHSV si, ei, (h, s, v)`, another spelling of a fill with equal end colours
(30_encoding.md R57). -/
def Instr.solidHsv (si ei : Index) (hsv : Hsv) : Instr :=
  .fillhsv si hsv ei hsv

/-- `SOLIDRGB si, ei, (r, g, b)` (30_encoding.md R57). -/
def Instr.solidRgb (si ei : Index) (rgb : Rgb) : Instr :=
  .fillrgb si rgb ei rgb

/-- A triple in the textual form of 30_encoding.md R56. -/
def Triple.text (t : Triple) : String :=
  "(" ++ toString t.c0.toNat ++ ", " ++ toString t.c1.toNat ++ ", " ++ toString t.c2.toNat ++ ")"

/-- A command in the textual form of 30_encoding.md R56, numbers in decimal. -/
def Instr.text : Instr → String
  | .convert h s v => "CONVERT " ++ Triple.text ⟨h, s, v⟩
  | .wrpix idx c => "WRPIX " ++ toString idx.toNat ++ ", " ++ c.text
  | .fillhsv si sc ei ec =>
    "FILLHSV " ++ toString si.toNat ++ ", " ++ sc.text ++ ", " ++ toString ei.toNat ++ ", " ++ ec.text
  | .fillrgb si sc ei ec =>
    "FILLRGB " ++ toString si.toNat ++ ", " ++ sc.text ++ ", " ++ toString ei.toNat ++ ", " ++ ec.text

/-- One row of spec/opcode_table.json: a word selects it when `w AND mask = pattern`
(30_encoding.md R53). -/
structure OpcodeRow where
  opcode  : Opcode
  mask    : CommandWord
  pattern : CommandWord
  deriving DecidableEq, Repr

/-- A word selects a row (30_encoding.md R53). -/
def OpcodeRow.selects (r : OpcodeRow) (w : CommandWord) : Bool :=
  w &&& r.mask == r.pattern

/-- The rows of spec/opcode_table.json, copied from its "match" and "mask". -/
def opcodeTable : List OpcodeRow :=
  [⟨.convert, 0xFFFFFF000000FFFFFFFFFFFF, 0x010000000000000000000000⟩,
   ⟨.wrpix,   0xFF0000000000FFFFFFFFFFFF, 0x020000000000000000000000⟩,
   ⟨.fillhsv, 0xFF0000000000FF0000000000, 0x030000000000000000000000⟩,
   ⟨.fillrgb, 0xFF0000000000FF0000000000, 0x040000000000000000000000⟩]

/-- The command word whose low `nbits` bits are those of `w`, every other bit 0. The table numbers
the bits as 30_encoding.md R46 does (entry 13). -/
def tableWord (nbits w : Nat) : CommandWord :=
  BitVec.ofNat 96 (w % 2 ^ nbits)

/-- What the decoder reads from an instruction whose bits are `w`, numbered as
spec/opcode_table.json numbers them. -/
def decodeTableWord (nbits w : Nat) : Option Instr :=
  match decode (tableWord nbits w) with
  | .ok i => some i
  | .error _ => none

end Sys2Proof
end

