-- ==== Sys2Proof/Machine/State.lean ====
section
/-! DEFINITION. The state of the core (10_state.md R17), its inputs, the reasons a step can stop, and
the state after reset (R30). Plain data only. -/

namespace Sys2Proof.Machine

/-- The LED buffer BUF as a sparse list of (index, RGB element), indices strictly rising. An index
that is not listed holds what the host left there: no value (10_state.md R30, 70 R126; entries 1, 2). -/
abbrev Memory := List (Nat × Rgb)

/-- LATCH, the nine operand latches, 88 bits (10_state.md R19; `sc` is SC0 to SC2, `ec` is EC0 to
EC2). -/
structure Latch where
  op : BitVec 8
  si : Index
  sc : Triple
  ei : Index
  ec : Triple
  deriving DecidableEq, Repr

/-- The fields of STATUS (10_state.md R23). Bits 7:3 read as 0 and nothing writes them; the 32-bit
register is `Status.word` (entry 15). -/
structure Status where
  busy   : Bool
  fault  : Bool
  rvalid : Bool
  cause  : BitVec 8
  fidx   : BitVec 16
  deriving DecidableEq, Repr

/-- The synchronous faults of the core (60_exceptions.md R106). Taking one is a NEXT state (R108). -/
inductive FaultCause where
  /-- Cause 1, raised by the acceptance of an illegal word. -/
  | illegalCommand
  /-- Cause 2, raised by the acceptance of a fill whose end index is below its start index. -/
  | rangeFault
  /-- Cause 3, raised by a store at an index that is not below BUF_LEN. -/
  | boundsFault (index : Nat)
  deriving DecidableEq, Repr

/-- The whole state. `buf`, `latch`, `stepCtr` (STEP), `status` and `result` are the spec's
(10_state.md R17); `port` and `resetIn` are the inputs of the core (70 R137; entry 8); `bufLen`
(BUF_LEN, entry 3) and `draws` (entry 7) are the model's own fields. -/
structure State where
  buf     : Memory
  latch   : Latch
  stepCtr : BitVec 16
  status  : Status
  result  : BitVec 32
  port    : Option CommandWord
  resetIn : Bool
  bufLen  : Nat
  draws   : Nat
  deriving DecidableEq, Repr

/-- Why a step answers a fault. -/
inductive Fault where
  /-- Raised by `step` in a state with STATUS.FAULT = 1 and no reset applied: the core "takes no
  step" there until reset (60_exceptions.md R110, R122(b)). It carries CAUSE and FIDX. Safe: the
  state it stops in is stuck on the hardware too (entry 10). -/
  | coreFaulted (cause : BitVec 8) (fidx : BitVec 16)
  deriving DecidableEq, Repr

/-- Why a step or an action of the host is refused. -/
inductive Refusal where
  /-- Raised by `exec` for an instruction without a meaning; no arm does. Safe. -/
  | notModelled (mnemonic : String)
  /-- Raised by `hostStore`, never by `step`: the host stores an element of the fill in progress,
  which is outside the spec (20_memory.md R43, 93 U8). Safe: no claim is made of that run. -/
  | contestedElement (index : Nat)
  /-- Raised by `hostStore`, never by `step`: the host's buffer has no such element
  (20_memory.md R39). Safe: no claim is made of that run. -/
  | noSuchElement (index : Nat)
  deriving DecidableEq, Repr

/-- STATUS = 0 (10_state.md R30). -/
def Status.cleared : Status := ⟨false, false, false, 0, 0⟩

/-- The machine right after reset (10_state.md R30, 70 R123): STATUS 0, RESULT[31:24] 0, the port
empty, nothing listed in BUF. DESIGN CHOICE: RESULT[23:0] (entry 4), STEP and LATCH (entry 5) hold 0,
BUF_LEN is 65536 (entry 3), no reset is being applied (entry 8), no value has been drawn (entry 7). -/
def State.reset : State where
  buf     := []
  latch   := ⟨0, 0, ⟨0, 0, 0⟩, 0, ⟨0, 0, 0⟩⟩
  stepCtr := 0
  status  := Status.cleared
  result  := 0
  port    := none
  resetIn := false
  bufLen  := 65536
  draws   := 0

end Sys2Proof.Machine
end

