-- ==== Sys2Proof/Machine/Flags.lean ====
section
/-! DEFINITION. STATUS as the host reads it, and every change a step can make to its fields
(10_state.md R23 to R26, 60_exceptions.md R106, R108). -/

namespace Sys2Proof.Machine

/-- STATUS as one 32-bit register (10_state.md R23): FIDX, CAUSE, five zero bits, RVALID, FAULT,
BUSY. -/
def Status.word (st : Status) : BitVec 32 :=
  st.fidx ++ st.cause ++ (0 : BitVec 5) ++ BitVec.ofBool st.rvalid ++ BitVec.ofBool st.fault
    ++ BitVec.ofBool st.busy

/-- The code written to CAUSE (60_exceptions.md R106). -/
def FaultCause.code : FaultCause → BitVec 8
  | .illegalCommand => 1
  | .rangeFault     => 2
  | .boundsFault _  => 3

/-- The value written to FIDX: the refused index, 0 for the other faults (60_exceptions.md R106). -/
def FaultCause.fidx : FaultCause → BitVec 16
  | .illegalCommand => 0
  | .rangeFault     => 0
  | .boundsFault k  => BitVec.ofNat 16 k

/-- STATUS after fault entry: FAULT, CAUSE and FIDX written together, BUSY cleared, RVALID kept
(60_exceptions.md R108, 10_state.md R25). -/
def Status.faulted (st : Status) (f : FaultCause) : Status :=
  { st with busy := false, fault := true, cause := f.code, fidx := f.fidx }

/-- A fill has been accepted (10_state.md R24). -/
def Status.setBusy (st : Status) : Status := { st with busy := true }

/-- The last write of a fill has been performed (10_state.md R24). -/
def Status.clearBusy (st : Status) : Status := { st with busy := false }

/-- A CONVERT has written RESULT (10_state.md R26). -/
def Status.setRvalid (st : Status) : Status := { st with rvalid := true }

/-- The core can accept a word: BUSY = 0 and FAULT = 0 (10_state.md R28). -/
def Status.idle (st : Status) : Bool := !st.busy && !st.fault

end Sys2Proof.Machine
end

