-- ==== Sys2Proof/Machine/Ops.lean ====
section
/-! DEFINITION. The shared operations: the buffer's read and write, `WritePixel`, the free draws,
taking a fault, the reset step, the command port. -/

namespace Sys2Proof.Machine

/-- The element at index `k`: none where the host's launch contents still stand and the model lists
none (entry 2). The core itself never reads (20_memory.md R34): this is the host's and the outside
readers' read, and the one the statements use. -/
def Memory.read : Memory → Nat → Option Rgb
  | [], _ => none
  | (a, c) :: rest, k => if a = k then some c else Memory.read rest k

/-- `MemWrite(k, 1, c)`: the element at `k` becomes `c`, no other changes (20_memory.md R37, R38). It
does not check `k` (00_scope.md R11). -/
def Memory.write : Memory → Nat → Rgb → Memory
  | [], k, c => [(k, c)]
  | (a, d) :: rest, k, c =>
    if k < a then (k, c) :: (a, d) :: rest
    else if k = a then (k, c) :: rest
    else (a, d) :: Memory.write rest k c

/-- Every listed index is above `lo`, and they rise strictly. -/
def Memory.risingFrom : Nat → Memory → Bool
  | _, [] => true
  | lo, (a, _) :: rest => decide (lo < a) && Memory.risingFrom a rest

/-- The canonical form: the listed indices rise strictly. An unlisted element reads as no value, so
no entry can equal it. -/
def Memory.wf : Memory → Bool
  | [] => true
  | (a, _) :: rest => Memory.risingFrom a rest

/-- Every listed index is below `n` (20_memory.md R39, R40). -/
def Memory.below : Memory → Nat → Bool
  | [], _ => true
  | (a, _) :: rest, n => decide (a < n) && Memory.below rest n

/-- Fault entry (60_exceptions.md R108): STATUS alone changes. -/
def State.raise (f : FaultCause) (s : State) : State :=
  { s with status := s.status.faulted f }

/-- The state after `MemWrite(idx, 1, c)`: BUF alone changes (20_memory.md R37, R38). -/
def State.store (idx : Nat) (c : Rgb) (s : State) : State :=
  { s with buf := s.buf.write idx c }

/-- `WritePixel(idx, c)` (41_write_pixel.md R81): the store, or the BoundsFault to be raised. -/
def writePixel (idx : Nat) (c : Rgb) (s : State) : Except FaultCause State :=
  if idx < s.bufLen then .ok (s.store idx c)
  else .error (.boundsFault idx)

/-- The state in which the next draw is another one (93 U1). -/
def State.nextDraw (s : State) : State :=
  { s with draws := s.draws + 1 }

/-- One draw of `any_u24` (00_scope.md R11, 93 U1): the value, and the state after it. -/
def State.drawU24 (s : State) : BitVec 24 × State :=
  (Config.anyU24 s.draws, s.nextDraw)

/-- The nine latches in 88 bits, in the order of 10_state.md R19. -/
def Latch.ofBits (b : BitVec 88) : Latch where
  op := b.extractLsb' 80 8
  si := b.extractLsb' 64 16
  sc := Triple.unpack24 (b.extractLsb' 40 24)
  ei := b.extractLsb' 24 16
  ec := Triple.unpack24 (b.extractLsb' 0 24)

/-- RESULT holding a 24-bit quantity: bits 31:24 are 0 (10_state.md R27). -/
def resultWord (b : BitVec 24) : BitVec 32 :=
  (0 : BitVec 8) ++ b

/-- The reset step (70 R123, R125, R126, 10_state.md R30): STATUS 0, RESULT[31:24] 0, the port empty,
BUF untouched; RESULT[23:0], STEP and LATCH are free values (entry 6). The reset input has been
consumed (entry 8). -/
def resetCore (s : State) : State :=
  { s with
    latch   := Latch.ofBits (Config.anyLatch s.draws)
    stepCtr := Config.anyStep s.draws
    status  := Status.cleared
    result  := resultWord (Config.anyU24 s.draws)
    port    := none
    resetIn := false
    draws   := s.draws + 1 }

/-- The core has consumed the word at its port (10_state.md R28). -/
def State.consume (s : State) : State :=
  { s with port := none }

/-- The word at the port, if any, and the state once the core has consumed it (10_state.md R28). -/
def fetch (s : State) : Option (CommandWord × State) :=
  match s.port with
  | none => none
  | some w => some (w, s.consume)

/-- What the acceptance of an illegal word does, after the word has been consumed
(30_encoding.md R50). -/
def takeIllegal (s : State) : State :=
  s.raise .illegalCommand

/-- The fault a step answers in a faulted state (60_exceptions.md R110; entry 10). -/
def stuckFault (s : State) : Fault :=
  .coreFaulted s.status.cause s.status.fidx

end Sys2Proof.Machine
end

