-- ==== Sys2Proof/Machine/Operands.lean ====
section
/-! DEFINITION. The operands of a fill as the latches hold them (10_state.md R19, 30_encoding.md R48),
and what a fill computes from them: gap and effective index (42_gradient.md R85, R90). CONVERT and
WRPIX take their operands straight from the command. -/

namespace Sys2Proof.Machine

/-- The latches that a fill's acceptance loads (42_gradient.md R89). -/
def Latch.load (op : Opcode) (si : Index) (sc : Triple) (ei : Index) (ec : Triple) : Latch :=
  ⟨op.bits, si, sc, ei, ec⟩

/-- `gap = LATCH.EI - LATCH.SI`, over Int (42_gradient.md R90). -/
def Latch.gap (l : Latch) : Int :=
  (l.ei.toNat : Int) - (l.si.toNat : Int)

/-- The index of iteration `i`: `start_index + i` (42_gradient.md R90, 20_memory.md R41). -/
def Latch.index (l : Latch) (i : Nat) : Nat :=
  l.si.toNat + i

/-- The command in progress converts each pixel: LATCH.OP is FILLHSV's opcode (42_gradient.md R90). -/
def Latch.converts (l : Latch) : Bool :=
  l.op == Opcode.fillhsv.bits

end Sys2Proof.Machine
end

