-- ==== Sys2Proof/Machine/Color.lean ====
section
/-! DEFINITION. The converter `hsv2rgb` (40_convert.md R59 to R69), step by step over Int, and the
draw that stands for its unspecified results (R73). -/

namespace Sys2Proof.Machine

/-- Step 1, the mirrored value `v'` (40_convert.md R60). -/
def mirroredValue (value : Int) : Int :=
  if value > Config.maxValue then 2 * Config.maxValue - value else value

/-- Step 3, the peak channel `high` of a mirrored value (40_convert.md R62). -/
def peak (v : Int) : Int :=
  v * Config.maxSaturation

/-- Step 5, the trough channel `low`, the mirrored value times the whiteness (40_convert.md R64). -/
def trough (saturation v : Int) : Int :=
  v * (Config.maxSaturation - saturation)

/-- Step 6, the position inside the sextant (40_convert.md R65). -/
def segmentOffset (hue : Int) : Int :=
  hue % Config.hueSegment

/-- Step 6, `delta`: the whole product divided once (40_convert.md R65, R66; entry 14). -/
def delta (saturation v offset : Int) : Int :=
  (saturation * v * offset) / Config.hueSegment

/-- Step 6, the rising channel (40_convert.md R65). -/
def risingChannel (saturation v offset : Int) : Int :=
  if offset > 0 then trough saturation v + delta saturation v offset else trough saturation v

/-- Step 6, the falling channel, with the `+ 1` that R80 says to keep (40_convert.md R65). -/
def fallingChannel (saturation v offset : Int) : Int :=
  if offset > 0 then peak v - (delta saturation v offset + 1) else peak v

/-- Step 7, the band number `k` of the reduced hue (40_convert.md R67, R68). -/
def sextant (hue : Int) : Int :=
  hue % Config.hueFull / Config.hueSegment

/-- Three channels before they are narrowed to bytes. -/
structure Channels where
  red   : Int
  green : Int
  blue  : Int
  deriving DecidableEq, Repr

/-- Step 7, the channel assignment of band `k` (40_convert.md R68). -/
def assignChannels (k high low rising falling : Int) : Channels :=
  if k = 0 then ⟨high, rising, low⟩
  else if k = 1 then ⟨falling, high, low⟩
  else if k = 2 then ⟨low, high, rising⟩
  else if k = 3 then ⟨low, falling, high⟩
  else if k = 4 then ⟨rising, low, high⟩
  else ⟨high, low, falling⟩

/-- The whole function over Int, for inputs in the documented domain (40_convert.md R69 without its
first line). -/
def hsv2rgbExact (hue saturation value : Int) : Channels :=
  let v := mirroredValue value
  if v = 0 then ⟨0, 0, 0⟩
  else if saturation = 0 then ⟨peak v, peak v, peak v⟩
  else
    assignChannels (sextant hue) (peak v) (trough saturation v)
      (risingChannel saturation v (segmentOffset hue))
      (fallingChannel saturation v (segmentOffset hue))

/-- The channels as bytes. In the documented domain nothing is lost (40_convert.md R72). -/
def Channels.toRgb (c : Channels) : Rgb :=
  ⟨BitVec.ofInt 8 c.red, BitVec.ofInt 8 c.green, BitVec.ofInt 8 c.blue⟩

/-- The documented domain: saturation at most 15, value at most 34; every hue (40_convert.md R59,
R73). -/
def inDomain (saturation value : Byte) : Bool :=
  decide ((saturation.toNat : Int) ≤ Config.maxSaturation) &&
    decide ((value.toNat : Int) ≤ 2 * Config.maxValue)

/-- `hsv2rgb` (40_convert.md R69): none stands for `any_u24`, outside the domain (R73). -/
def hsv2rgb (hue saturation value : Byte) : Option Rgb :=
  if inDomain saturation value then
    some (hsv2rgbExact hue.toNat saturation.toNat value.toNat).toRgb
  else none

/-- The colour an evaluation of `hsv2rgb` yields in a state, a free draw where it is unspecified
(40_convert.md R73, 93 U2), and the state after it. -/
def convertColor (hue saturation value : Byte) (s : State) : Rgb × State :=
  match hsv2rgb hue saturation value with
  | some c => (c, s)
  | none => (Triple.unpack24 s.drawU24.1, s.drawU24.2)

end Sys2Proof.Machine
end

