-- ==== Sys2Proof/Machine/Convert.lean ====
section
/-! DEFINITION. The command CONVERT (40_convert.md R70). -/

namespace Sys2Proof.Machine

/-- RESULT and RVALID after a conversion has returned `c` (40_convert.md R70, 10_state.md R26, R27). -/
def State.returnColor (c : Rgb) (s : State) : State :=
  { s with result := resultWord c.pack24, status := s.status.setRvalid }

/-- CONVERT (40_convert.md R70): it completes in the step that accepts it. -/
def execConvert (hue saturation value : Byte) (s : State) : Host.Outcome State Fault Refusal :=
  .next ((convertColor hue saturation value s).2.returnColor (convertColor hue saturation value s).1)

end Sys2Proof.Machine
end

