-- ==== Sys2Proof/Machine/Gradient.lean ====
section
/-! DEFINITION. The gradient generators (42_gradient.md): interpolation (R86), acceptance (R89), the
fill step (R90), FILLHSV and FILLRGB (R91, R92), and the whole-command form (R96). -/

namespace Sys2Proof.Machine

/-- `interp` over Int: the product first, one division, truncating toward zero (42_gradient.md R86,
R87). It is used with `gap` at least 1 only (R93). -/
def interpExact (a b i gap : Int) : Int :=
  a + Int.tdiv ((b - a) * i) gap

/-- `interp` of two bytes; the result is between them (42_gradient.md R86, R88(c)). -/
def interp (a b : Byte) (i : Nat) (gap : Int) : Byte :=
  BitVec.ofInt 8 (interpExact a.toNat b.toNat i gap)

/-- The three components of iteration `i`, each on its own (42_gradient.md R90, R95); the start
components when the indices are equal (R93). -/
def fillComponents (l : Latch) (i : Nat) : Triple :=
  if l.gap = 0 then l.sc
  else ⟨interp l.sc.c0 l.ec.c0 i l.gap, interp l.sc.c1 l.ec.c1 i l.gap,
        interp l.sc.c2 l.ec.c2 i l.gap⟩

/-- The pixel of iteration `i`, converted for FILLHSV (42_gradient.md R90), and the state after any
draw (R99). -/
def fillPixel (l : Latch) (i : Nat) (s : State) : Rgb × State :=
  if l.converts then
    convertColor (fillComponents l i).c0 (fillComponents l i).c1 (fillComponents l i).c2 s
  else (fillComponents l i, s)

/-- Iteration `i` of a fill: one pixel, one call of `WritePixel` (42_gradient.md R90). -/
def fillStore (l : Latch) (i : Nat) (s : State) : Except FaultCause State :=
  writePixel (l.index i) (fillPixel l i s).1 (fillPixel l i s).2

/-- The last step of a fill clears BUSY (42_gradient.md R90). -/
def State.endFill (s : State) : State :=
  { s with status := s.status.clearBusy }

/-- Every other step of a fill advances STEP (42_gradient.md R90). -/
def State.nextIteration (s : State) : State :=
  { s with stepCtr := s.stepCtr + 1 }

/-- A fill begins: LATCH loaded, STEP 0, BUSY 1 (42_gradient.md R89). -/
def State.beginFill (l : Latch) (s : State) : State :=
  { s with latch := l, stepCtr := 0, status := s.status.setBusy }

/-- After a store of iteration STEP: the fill ends when STEP equals the gap, else STEP advances
(42_gradient.md R90). -/
def fillAdvance (s : State) : State :=
  if (s.stepCtr.toNat : Int) = s.latch.gap then s.endFill
  else s.nextIteration

/-- The fill step (42_gradient.md R90). A BoundsFault ends it before STEP advances. -/
def fillStep (s : State) : State :=
  match fillStore s.latch s.stepCtr.toNat s with
  | .ok t => fillAdvance t
  | .error f => s.raise f

/-- Acceptance of a fill (42_gradient.md R89, R94): RangeFault, or LATCH loaded, STEP 0, BUSY 1. It
writes no element. -/
def acceptFill (op : Opcode) (si : Index) (sc : Triple) (ei : Index) (ec : Triple) (s : State) :
    State :=
  if ei.toNat < si.toNat then s.raise .rangeFault
  else s.beginFill (Latch.load op si sc ei ec)

/-- FILLHSV (42_gradient.md R91): its acceptance; the fill steps follow (R90). -/
def execFillhsv (si : Index) (sc : Hsv) (ei : Index) (ec : Hsv) (s : State) :
    Host.Outcome State Fault Refusal :=
  .next (acceptFill .fillhsv si sc ei ec s)

/-- FILLRGB (42_gradient.md R92): its acceptance; the fill steps follow (R90). -/
def execFillrgb (si : Index) (sc : Rgb) (ei : Index) (ec : Rgb) (s : State) :
    Host.Outcome State Fault Refusal :=
  .next (acceptFill .fillrgb si sc ei ec s)

/-- The loop of the whole-command form (42_gradient.md R96): `n` iterations from iteration `i` on; a
BoundsFault ends it. -/
def fillLoop (l : Latch) : Nat → Nat → State → State
  | 0, _, s => s
  | n + 1, i, s =>
    match fillStore l i s with
    | .ok t => fillLoop l n (i + 1) t
    | .error f => s.raise f

/-- The whole-command form of an accepted fill (42_gradient.md R96): iterations 0 to gap, as one
action. No step runs it: the steps are those of R90, and a statement relates the two. -/
def wholeFill (l : Latch) (s : State) : State :=
  fillLoop l (l.gap.toNat + 1) 0 s

end Sys2Proof.Machine
end

