-- ==== Sys2Proof/Machine/WritePixel.lean ====
section
/-! DEFINITION. The command WRPIX (41_write_pixel.md R82). -/

namespace Sys2Proof.Machine

/-- WRPIX (41_write_pixel.md R82): one checked store of the colour as given; it completes in the step
that accepts it. -/
def execWrpix (index : Index) (color : Rgb) (s : State) : Host.Outcome State Fault Refusal :=
  match writePixel index.toNat color s with
  | .ok t => .next t
  | .error f => .next (s.raise f)

end Sys2Proof.Machine
end

