-- ==== Sys2Proof/Machine/Dispatch.lean ====
section
/-! DEFINITION. The meaning of each command when the core accepts it: one arm per constructor. -/

namespace Sys2Proof.Machine

/-- What the core does in the step that accepts a command, the word already consumed (70 R137(d)). -/
def exec (i : Instr) (s : State) : Host.Outcome State Fault Refusal :=
  match i with
  | .convert hue saturation value => Sys2Proof.Machine.execConvert hue saturation value s
  | .wrpix index color => Sys2Proof.Machine.execWrpix index color s
  | .fillhsv si sc ei ec => Sys2Proof.Machine.execFillhsv si sc ei ec s
  | .fillrgb si sc ei ec => Sys2Proof.Machine.execFillrgb si sc ei ec s

end Sys2Proof.Machine
end

