-- ==== Sys2Proof/Machine/Step.lean ====
section
/-! DEFINITION. The step of the core (70 R137), and how a word is placed for the next step. -/

namespace Sys2Proof.Machine

/-- One step of the core, the five cases of 70 R137 in the order written: (a) reset, (b) faulted, no
step (entry 10), (c) the fill step, (d) acceptance of the word at the port, (e) idle, no step: the
state stays (entry 9). -/
def step (s : State) : Host.Outcome State Fault Refusal :=
  if s.resetIn then .next (resetCore s)
  else if s.status.fault then .fault (stuckFault s)
  else if s.status.busy then .next (fillStep s)
  else
    match fetch s with
    | none => .next s
    | some (w, t) =>
      match decode w with
      | .ok i => exec i t
      | .error _ => .next (takeIllegal t)

/-- The word is offered at the port of a core that can accept it: no reset applied, BUSY = 0 and no
fault recorded (10_state.md R25, R28; entry 11). RVALID and everything else stay. -/
def State.withFetchWord (s : State) (nbits w : Nat) : State :=
  { s with
    port    := some (tableWord nbits w)
    resetIn := false
    status  := { s.status with busy := false, fault := false, cause := 0, fidx := 0 } }

end Sys2Proof.Machine
end

