-- ==== Sys2Proof/Machine/HostPort.lean ====
section
/-! DEFINITION. What the host can do between the steps of the core (00_scope.md R10, 70 R127, R137). -/

namespace Sys2Proof.Machine

/-- The launch state of a run: after reset, with the buffer's length and whatever contents the host
lists (70 R126, 93 U9, U10). Elements it does not list keep a value the model does not know. -/
def State.launch (bufLen : Nat) (contents : Memory) : State :=
  { State.reset with bufLen := bufLen, buf := contents }

/-- The host offers a word; while the port holds one, the host's word is not taken (70 R129, R137). -/
def offer (w : CommandWord) (s : State) : State :=
  match s.port with
  | none => { s with port := some w }
  | some _ => s

/-- The host applies the reset input; the next step is the reset (70 R123; entry 8). -/
def applyReset (s : State) : State :=
  { s with resetIn := true }

/-- The host reads STATUS (10_state.md R23). -/
def readStatus (s : State) : BitVec 32 :=
  s.status.word

/-- The host reads RESULT: no value while RVALID = 0 (10_state.md R27, 93 U4). -/
def readResult (s : State) : Option (BitVec 32) :=
  if s.status.rvalid then some s.result else none

/-- The host or an outside reader reads an element: whole, and no value where only the launch
contents stand (20_memory.md R34, R37). -/
def readElement (k : Nat) (s : State) : Option Rgb :=
  s.buf.read k

/-- "a host write to it has no effect" (10_state.md R23). -/
def writeStatus (_v : BitVec 32) (s : State) : State := s

/-- "a host write has no effect" (10_state.md R27). -/
def writeResult (_v : BitVec 32) (s : State) : State := s

/-- The element is one of the fill in progress (70 R131). -/
def inFill (k : Nat) (s : State) : Bool :=
  s.status.busy && decide (s.latch.si.toNat ≤ k) && decide (k ≤ s.latch.ei.toNat)

/-- The host stores an element of its buffer, outside any fill in progress (20_memory.md R43, 70
R131; entry 12). -/
def hostStore (k : Nat) (c : Rgb) (s : State) : Host.Outcome State Fault Refusal :=
  if s.bufLen ≤ k then .refused (.noSuchElement k)
  else if inFill k s then .refused (.contestedElement k)
  else .next (s.store k c)

/-- The host offers the next word of its program whenever the port is empty (70 R137): the words that
remain, and the state. -/
def hostTurn : List CommandWord → State → List CommandWord × State
  | [], s => ([], s)
  | w :: ws, s =>
    match s.port with
    | none => (ws, offer w s)
    | some _ => (w :: ws, s)

/-- `n` turns of the host, each followed by a step of the core (70 R128, R137): the words that remain
and the state, or how the core stopped. -/
def runProgram : Nat → List CommandWord → State →
    Host.Outcome (List CommandWord × State) Fault Refusal
  | 0, ws, s => .next (ws, s)
  | n + 1, ws, s =>
    match step (hostTurn ws s).2 with
    | .next t => runProgram n (hostTurn ws s).1 t
    | .fault r => .fault r
    | .refused r => .refused r

end Sys2Proof.Machine
end

