-- ==== Sys2Proof/Safety.lean ====
section
/-! DEFINITION. What counts as a safe state and a normal end, in the terms the statements use. -/

namespace Sys2Proof.Machine

/-- The core can accept a word in the next step: no reset applied, BUSY = 0, FAULT = 0
(10_state.md R28, 70 R137). -/
def State.ready (s : State) : Prop :=
  s.resetIn = false ∧ s.status.busy = false ∧ s.status.fault = false

/-- A fill step is the next step: no reset applied, FAULT = 0, BUSY = 1 (42_gradient.md R90). -/
def State.filling (s : State) : Prop :=
  s.resetIn = false ∧ s.status.fault = false ∧ s.status.busy = true

/-- The run of a program has ended normally: every word accepted, the core idle, no fault (70 R128). -/
def NormalEnd (rest : List CommandWord) (s : State) : Prop :=
  rest = [] ∧ s.port = none ∧ s.status.busy = false ∧ s.status.fault = false

/-- The run has failed: "A state with FAULT = 1 is not a normal end" (70 R128, 60 R110). -/
def FailedRun (s : State) : Prop :=
  s.status.fault = true

/-- `n` steps of the core, stopping at the first fault: the host's own run (Host/Core.lean), at the
model's types. -/
def runCore (n : Nat) (s : State) : Host.Outcome State Fault Refusal :=
  Sys2Proof.core.run n s

/-- The index the next step stores to if that index is in the buffer: a fill step's `start_index + i`
(42_gradient.md R90), an accepted WRPIX's index (41_write_pixel.md R82). -/
def State.storeIndex (s : State) : Option Nat :=
  if s.resetIn || s.status.fault then none
  else if s.status.busy then some (s.latch.index s.stepCtr.toNat)
  else
    match fetch s with
    | none => none
    | some (w, _) =>
      match decode w with
      | .ok (.wrpix k _) => some k.toNat
      | .ok (.convert _ _ _) => none
      | .ok (.fillhsv _ _ _ _) => none
      | .ok (.fillrgb _ _ _ _) => none
      | .error _ => none

/-- The components a fill from `si` to `ei` gives index `k` of its range (42_gradient.md R86, R91 to
R93): the start triple when the indices are equal, the three interpolations otherwise. -/
def gradientAt (si : Index) (sc : Triple) (ei : Index) (ec : Triple) (k : Nat) : Triple :=
  if si = ei then sc
  else
    let gap : Int := (ei.toNat : Int) - (si.toNat : Int)
    ⟨interp sc.c0 ec.c0 (k - si.toNat) gap, interp sc.c1 ec.c1 (k - si.toNat) gap,
     interp sc.c2 ec.c2 (k - si.toNat) gap⟩

/-- A colour that FILLHSV stores at index `k` of its range: the conversion of the interpolated triple, or
any colour where that is unspecified, which needs an end colour outside the documented domain
(42_gradient.md R91, R99, 40_convert.md R73). -/
def IsFillhsvColor (si : Index) (sc : Hsv) (ei : Index) (ec : Hsv) (k : Nat) (c : Rgb) : Prop :=
  let x := gradientAt si sc ei ec k
  hsv2rgb x.c0 x.c1 x.c2 = some c ∨
    (hsv2rgb x.c0 x.c1 x.c2 = none ∧ (inDomain sc.c1 sc.c2 && inDomain ec.c1 ec.c2) = false)

/-- The next step accepts a CONVERT whose result is unspecified (40_convert.md R70, R73, 93 U2). -/
def State.convertDraws (s : State) : Prop :=
  s.ready ∧ ∃ w h sat v, s.port = some w ∧ decode w = .ok (.convert h sat v) ∧
    hsv2rgb h sat v = none

/-- The next step is a FILLHSV step that stores an unspecified element (42_gradient.md R90, R99, 93
U2). -/
def State.fillStepDraws (s : State) : Prop :=
  s.filling ∧ s.latch.op = 0x03 ∧ s.latch.si.toNat + s.stepCtr.toNat < s.bufLen ∧
    let x := gradientAt s.latch.si s.latch.sc s.latch.ei s.latch.ec
      (s.latch.si.toNat + s.stepCtr.toNat)
    hsv2rgb x.c0 x.c1 x.c2 = none

/-- The host has kept its duties on the operands of a command: colours of HSV operands in the documented
domain, start index not above end index, indices inside the buffer (70 R133, 41_write_pixel.md R82). -/
def dutiesKept (bufLen : Nat) : Instr → Bool
  | .convert _ saturation value => inDomain saturation value
  | .wrpix index _ => decide (index.toNat < bufLen)
  | .fillhsv si sc ei ec =>
    decide (si.toNat ≤ ei.toNat) && decide (ei.toNat < bufLen) && inDomain sc.c1 sc.c2 &&
      inDomain ec.c1 ec.c2
  | .fillrgb si _ ei _ => decide (si.toNat ≤ ei.toNat) && decide (ei.toNat < bufLen)

/-- The invariant of the core. -/
structure Inv (s : State) : Prop where
  /-- BUF_LEN is a legal length (00_scope.md R9). -/
  len_pos : 1 ≤ s.bufLen
  len_le : s.bufLen ≤ Config.maxBufLen
  /-- BUF is in canonical form and nothing outside it is listed (20_memory.md R40). -/
  buf_wf : s.buf.wf = true
  buf_below : s.buf.below s.bufLen = true
  /-- RESULT[31:24] reads as 0 (10_state.md R27). -/
  result_high : s.result.extractLsb' 24 8 = 0
  /-- CAUSE and FIDX are 0 while FAULT = 0 (10_state.md R23, R25). -/
  cause_zero : s.status.fault = false → s.status.cause = 0 ∧ s.status.fidx = 0
  /-- CAUSE is 1, 2 or 3 once FAULT = 1 (10_state.md R25). -/
  cause_set : s.status.fault = true →
    s.status.cause = 1 ∨ s.status.cause = 2 ∨ s.status.cause = 3
  /-- A fault has cleared BUSY (60_exceptions.md R108). -/
  fault_stops : s.status.fault = true → s.status.busy = false
  /-- FIDX is the refused index of a BoundsFault and 0 otherwise (10_state.md R25, 60 R106). -/
  fidx_bounds : s.status.cause = 3 → s.bufLen ≤ s.status.fidx.toNat
  fidx_zero : s.status.cause ≠ 3 → s.status.fidx = 0
  /-- During a fill LATCH.OP is a fill's, EI is not below SI and STEP is at most the gap
  (10_state.md R22, 42_gradient.md R89, R90). -/
  fill_op : s.status.busy = true → s.latch.op = 3 ∨ s.latch.op = 4
  fill_step : s.status.busy = true → (s.stepCtr.toNat : Int) ≤ s.latch.gap

end Sys2Proof.Machine
end

