-- ==== Sys2Proof/Certificates/Slice0/Obligations.lean ====
section
/-! DEFINITION. The statements for the provers, each from the numbered rules of spec/. "Entry <n>" is
notes/assumptions/<n>.md. -/

open Sys2Proof Sys2Proof.Machine

/-! ### Encoding -/

/-- 30_encoding.md R54, whole: the four encodings, both round trips, and how many legal words each
command has. -/
def Obligations.EncodeAndDecodeAreInverse : Prop :=
  (∀ h s v : Byte, encode (.convert h s v) =
    (0x01 : BitVec 8) ++ (0x0000 : BitVec 16) ++ h ++ s ++ v ++ (0 : BitVec 48)) ∧
  (∀ (idx : Index) (r g b : Byte), encode (.wrpix idx ⟨r, g, b⟩) =
    (0x02 : BitVec 8) ++ idx ++ r ++ g ++ b ++ (0 : BitVec 48)) ∧
  (∀ (si ei : Index) (h0 s0 v0 h1 s1 v1 : Byte),
    encode (.fillhsv si ⟨h0, s0, v0⟩ ei ⟨h1, s1, v1⟩) =
      (0x03 : BitVec 8) ++ si ++ h0 ++ s0 ++ v0 ++ (0x00 : BitVec 8) ++ ei ++ h1 ++ s1 ++ v1) ∧
  (∀ (si ei : Index) (r0 g0 b0 r1 g1 b1 : Byte),
    encode (.fillrgb si ⟨r0, g0, b0⟩ ei ⟨r1, g1, b1⟩) =
      (0x04 : BitVec 8) ++ si ++ r0 ++ g0 ++ b0 ++ (0x00 : BitVec 8) ++ ei ++ r1 ++ g1 ++ b1) ∧
  (∀ i : Instr, i.wellFormed = true → decode (encode i) = .ok i) ∧
  (∀ (w : CommandWord) (i : Instr), decode w = .ok i → encode i = w) ∧
  Nonempty (BitVec 24 ≃ { w : CommandWord // ∃ h s v, decode w = .ok (.convert h s v) }) ∧
  Nonempty (BitVec 40 ≃ { w : CommandWord // ∃ k c, decode w = .ok (.wrpix k c) }) ∧
  Nonempty (BitVec 80 ≃ { w : CommandWord // ∃ si sc ei ec, decode w = .ok (.fillhsv si sc ei ec) }) ∧
  Nonempty (BitVec 80 ≃ { w : CommandWord // ∃ si sc ei ec, decode w = .ok (.fillrgb si sc ei ec) })

/-- 30_encoding.md R53, whole: each outcome of the decoder in terms of the bits of the word, and the
mask and match rows of spec/opcode_table.json select the same commands, at most one row a word. -/
def Obligations.DecoderAgreesWithFieldsAndTable : Prop :=
  ∀ w : CommandWord,
    (∀ h s v : Byte, decode w = .ok (.convert h s v) ↔
      w.extractLsb' 40 8 = 0 ∧ w.extractLsb' 88 8 = 0x01 ∧ w.extractLsb' 72 16 = 0 ∧
      w.extractLsb' 0 48 = 0 ∧
      h = w.extractLsb' 64 8 ∧ s = w.extractLsb' 56 8 ∧ v = w.extractLsb' 48 8) ∧
    (∀ (idx : Index) (c : Rgb), decode w = .ok (.wrpix idx c) ↔
      w.extractLsb' 40 8 = 0 ∧ w.extractLsb' 88 8 = 0x02 ∧ w.extractLsb' 0 48 = 0 ∧
      idx = w.extractLsb' 72 16 ∧
      c = ⟨w.extractLsb' 64 8, w.extractLsb' 56 8, w.extractLsb' 48 8⟩) ∧
    (∀ (si ei : Index) (sc ec : Hsv), decode w = .ok (.fillhsv si sc ei ec) ↔
      w.extractLsb' 40 8 = 0 ∧ w.extractLsb' 88 8 = 0x03 ∧
      si = w.extractLsb' 72 16 ∧ ei = w.extractLsb' 24 16 ∧
      sc = ⟨w.extractLsb' 64 8, w.extractLsb' 56 8, w.extractLsb' 48 8⟩ ∧
      ec = ⟨w.extractLsb' 16 8, w.extractLsb' 8 8, w.extractLsb' 0 8⟩) ∧
    (∀ (si ei : Index) (sc ec : Rgb), decode w = .ok (.fillrgb si sc ei ec) ↔
      w.extractLsb' 40 8 = 0 ∧ w.extractLsb' 88 8 = 0x04 ∧
      si = w.extractLsb' 72 16 ∧ ei = w.extractLsb' 24 16 ∧
      sc = ⟨w.extractLsb' 64 8, w.extractLsb' 56 8, w.extractLsb' 48 8⟩ ∧
      ec = ⟨w.extractLsb' 16 8, w.extractLsb' 8 8, w.extractLsb' 0 8⟩) ∧
    (∀ i, decode w = .ok i → ∃ r ∈ opcodeTable, r.selects w = true ∧ r.opcode = i.opcode) ∧
    (∀ e, decode w = .error e → ∀ r ∈ opcodeTable, r.selects w = false) ∧
    (∀ r ∈ opcodeTable, ∀ r' ∈ opcodeTable, r.selects w = true → r'.selects w = true → r = r')

/-- A few words written out from 30_encoding.md R46, R47 decode to the commands they stand for. -/
def Obligations.WordsWrittenOutDecode : Prop :=
  decode 0x010000000F11000000000000 = .ok (.convert 0 15 17) ∧
  decode 0x020002FF0000000000000000 = .ok (.wrpix 2 ⟨255, 0, 0⟩) ∧
  decode 0x030001000F11000007600F11 = .ok (.fillhsv 1 ⟨0, 15, 17⟩ 7 ⟨96, 15, 17⟩) ∧
  decode 0x040005FF000A000007000014 = .ok (.fillrgb 5 ⟨255, 0, 10⟩ 7 ⟨0, 0, 20⟩) ∧
  decode 0x000000000000000000000000 = .error .reservedOpcode

/-- 30_encoding.md R50: exactly the words with a reserved opcode or a must-be-zero field that is not 0
raise IllegalCommand when accepted, and nothing but STATUS and the consumed word changes. -/
def Obligations.IllegalWordRaisesIllegalCommand : Prop :=
  ∀ (s : State) (w : CommandWord), s.ready → s.port = some w →
    ((w.extractLsb' 88 8 = 0 ∨ 0x05 ≤ (w.extractLsb' 88 8).toNat ∨ w.extractLsb' 40 8 ≠ 0 ∨
        (w.extractLsb' 88 8 = 0x01 ∧ (w.extractLsb' 72 16 ≠ 0 ∨ w.extractLsb' 0 48 ≠ 0)) ∨
        (w.extractLsb' 88 8 = 0x02 ∧ w.extractLsb' 0 48 ≠ 0)) →
      step s = .next { s with port := none, status := ⟨false, true, s.status.rvalid, 1, 0⟩ }) ∧
    (¬ (w.extractLsb' 88 8 = 0 ∨ 0x05 ≤ (w.extractLsb' 88 8).toNat ∨ w.extractLsb' 40 8 ≠ 0 ∨
        (w.extractLsb' 88 8 = 0x01 ∧ (w.extractLsb' 72 16 ≠ 0 ∨ w.extractLsb' 0 48 ≠ 0)) ∨
        (w.extractLsb' 88 8 = 0x02 ∧ w.extractLsb' 0 48 ≠ 0)) →
      ∃ i, decode w = .ok i)

/-! ### The step -/

/-- A core that can accept a word runs the command the word at its port decodes to, on the state in
which the word has been consumed (70 R137(d), 10_state.md R28). -/
def Obligations.StepRunsTheDecodedCommand : Prop :=
  ∀ (s : State) (w : CommandWord) (i : Instr), s.ready → s.port = some w → decode w = .ok i →
    i.wellFormed = true → step s = exec i { s with port := none }

/-- The other cases of 70 R137: reset, faulted, fill step, idle. The model's choices: the faulted core
answers a fault (entry 10), the idle core stays (entry 9). -/
def Obligations.StepOtherThanAcceptance : Prop :=
  ∀ s : State,
    (s.resetIn = true → step s = .next (resetCore s)) ∧
    (s.resetIn = false → s.status.fault = true →
      step s = .fault (.coreFaulted s.status.cause s.status.fidx)) ∧
    (s.filling → step s = .next (fillStep s)) ∧
    (s.ready → s.port = none → step s = .next s)

/-- The word placed by withFetchWord is the one the next step accepts, in any state: a legal word runs
its command on a state with an empty port. How a word is placed is the model's choice (entry 11). -/
def Obligations.FetchWordIsRunNext : Prop :=
  ∀ (s : State) (w : Nat) (i : Instr), decodeTableWord 96 w = some i →
    step (s.withFetchWord 96 w) = exec i { s.withFetchWord 96 w with port := none }

/-- 70 R129: while a fill runs the word at the port stays there, untouched and not executed; a core
that can accept it consumes it in one step. -/
def Obligations.WaitingWordIsKeptThenConsumed : Prop :=
  (∀ s : State, s.filling → ∃ t, step s = .next t ∧ t.port = s.port) ∧
  (∀ (s : State) (w : CommandWord), s.ready → s.port = some w →
    ∃ t, step s = .next t ∧ t.port = none)

/-- 60 R110, 70 R129: with FAULT = 1 and no reset the core executes nothing more of any program. That
the step answers a fault there is the model's choice (entry 10). -/
def Obligations.FaultedCoreRunsNothing : Prop :=
  ∀ (s : State) (ws : List CommandWord) (n : Nat), s.resetIn = false → s.status.fault = true →
    runProgram (n + 1) ws s = .fault (.coreFaulted s.status.cause s.status.fidx)

/-- 70 R128: a program of one CONVERT, or of one WRPIX inside the buffer, ends normally after one
turn. -/
def Obligations.OneStepProgramsEndNormally : Prop :=
  (∀ (s : State) (h sat v : Byte), s.ready → s.port = none →
    ∃ t, runProgram 1 [encode (.convert h sat v)] s = .next ([], t) ∧ NormalEnd [] t) ∧
  (∀ (s : State) (k : Index) (c : Rgb), s.ready → s.port = none → k.toNat < s.bufLen →
    ∃ t, runProgram 1 [encode (.wrpix k c)] s = .next ([], t) ∧ NormalEnd [] t)

/-! ### Faults and reset -/

/-- 60 R108: fault entry writes FAULT, CAUSE, FIDX and BUSY and nothing else; the codes are those of
60 R106. -/
def Obligations.FaultEntryWritesStatusOnly : Prop :=
  ∀ s : State,
    s.raise .illegalCommand = { s with status := ⟨false, true, s.status.rvalid, 1, 0⟩ } ∧
    s.raise .rangeFault = { s with status := ⟨false, true, s.status.rvalid, 2, 0⟩ } ∧
    (∀ k : BitVec 16, s.raise (.boundsFault k.toNat) =
      { s with status := ⟨false, true, s.status.rvalid, 3, k⟩ })

/-- 60 R111: IllegalCommand before RangeFault before BoundsFault. A word that does not decode reports
cause 1 whatever its indices are; a legal fill with EI below SI reports cause 2 and FIDX 0 whatever
BUF_LEN is; a legal fill with SI not above EI is accepted without a fault, and its steps report a
BoundsFault exactly when the index of the step is not below BUF_LEN. -/
def Obligations.FaultPriority : Prop :=
  (∀ (s : State) (w : CommandWord) (e : DecodeError), s.ready → s.port = some w →
    decode w = .error e →
    ∃ t, step s = .next t ∧ t.status.fault = true ∧ t.status.cause = 1 ∧ t.status.fidx = 0) ∧
  (∀ (s : State) (w : CommandWord) (si ei : Index) (sc ec : Triple), s.ready → s.port = some w →
    decode w = .ok (.fillhsv si sc ei ec) ∨ decode w = .ok (.fillrgb si sc ei ec) →
    (ei.toNat < si.toNat →
      ∃ t, step s = .next t ∧ t.status.fault = true ∧ t.status.cause = 2 ∧ t.status.fidx = 0) ∧
    (si.toNat ≤ ei.toNat →
      ∃ t, step s = .next t ∧ t.status.fault = false ∧ t.status.busy = true)) ∧
  (∀ s : State, s.filling →
    ∃ t, step s = .next t ∧
      (t.status.fault = true ↔ s.bufLen ≤ s.latch.si.toNat + s.stepCtr.toNat) ∧
      (t.status.fault = true → t.status.cause = 3))

/-- 60 R110, 70 R123: only reset clears FAULT, and only reset clears RVALID. -/
def Obligations.OnlyResetClearsFaultAndRvalid : Prop :=
  ∀ s t : State, step s = .next t →
    (s.status.fault = true → s.resetIn = true) ∧
    (s.status.rvalid = true → t.status.rvalid = false → s.resetIn = true)

/-- 70 R123, R125, R126: the reset step, in any state, puts STATUS to 0 and RESULT[31:24] to 0, drops
a waiting word and leaves BUF as it is; nothing is said of RESULT[23:0], STEP and LATCH. That the step
consumes the reset input is the model's choice (entry 8). -/
def Obligations.ResetStepClearsStatusAndKeepsBuffer : Prop :=
  ∀ s : State, s.resetIn = true →
    ∃ t, step s = .next t ∧ t.status.word = 0 ∧ t.result.extractLsb' 24 8 = 0 ∧ t.port = none ∧
      t.resetIn = false ∧ t.bufLen = s.bufLen ∧ ∀ k, t.buf.read k = s.buf.read k

/-- 10_state.md R30: the values the spec gives for reset. -/
def Obligations.ResetValuesOfTheSpec : Prop :=
  State.reset.status.word = 0 ∧ State.reset.result.extractLsb' 24 8 = 0 ∧
  State.reset.port = none ∧ State.reset.ready

/-! ### STATUS and RESULT -/

/-- 10_state.md R23: the layout of STATUS, its reserved bits 7:3, and that a host write to it has no
effect. -/
def Obligations.StatusWordLayout : Prop :=
  (∀ st : Status,
    st.word.getLsbD 0 = st.busy ∧ st.word.getLsbD 1 = st.fault ∧ st.word.getLsbD 2 = st.rvalid ∧
    st.word.extractLsb' 3 5 = 0 ∧ st.word.extractLsb' 8 8 = st.cause ∧
    st.word.extractLsb' 16 16 = st.fidx) ∧
  (∀ (s : State) (v : BitVec 32),
    readStatus (writeStatus v s) = readStatus s ∧ writeStatus v s = s)

/-- 42_gradient.md R102, 10_state.md R27: a step changes RESULT or RVALID only by reset or by the
acceptance of a CONVERT; a fill step changes neither, whatever word waits at the port (70 R129); and
after any number of steps from the acceptance of a fill on, both are as they were before it. -/
def Obligations.OnlyConvertWritesResult : Prop :=
  (∀ s t : State, step s = .next t →
    (t.result ≠ s.result ∨ t.status.rvalid ≠ s.status.rvalid →
      s.resetIn = true ∨
      (s.ready ∧ ∃ w h sat v, s.port = some w ∧ decode w = .ok (.convert h sat v) ∧
        t.status.rvalid = true)) ∧
    (s.filling → t.result = s.result ∧ t.status.rvalid = s.status.rvalid)) ∧
  (∀ (s t : State) (si ei : Index) (sc ec : Triple) (n : Nat), s.ready →
    s.port = some (encode (.fillhsv si sc ei ec)) ∨
      s.port = some (encode (.fillrgb si sc ei ec)) →
    runCore n s = .next t → t.result = s.result ∧ t.status.rvalid = s.status.rvalid)

/-- 70 R132, 10_state.md R27: RESULT has no value for the host while RVALID = 0; once a CONVERT has
been accepted it is there, in bits 23:0, under zero bits. -/
def Obligations.ResultIsReadableAfterConvert : Prop :=
  (∀ s : State, s.status.rvalid = false → readResult s = none) ∧
  (∀ (s : State) (w : CommandWord) (h sat v : Byte) (c : Rgb), s.ready → s.port = some w →
    decode w = .ok (.convert h sat v) → hsv2rgb h sat v = some c →
    ∃ t, step s = .next t ∧
      readResult t = some ((0 : BitVec 8) ++ c.c0 ++ c.c1 ++ c.c2))

/-! ### CONVERT -/

/-- 40_convert.md R70 inside the documented domain, where the result is the specified one: RESULT and
RVALID are written and nothing else changes. -/
def Obligations.ConvertReturnsTheColor : Prop :=
  ∀ (s : State) (h sat v : Byte), sat.toNat ≤ 15 → v.toNat ≤ 34 →
    ∃ c, hsv2rgb h sat v = some c ∧
      exec (.convert h sat v) s =
        .next { s with result := (0 : BitVec 8) ++ (c.c0 ++ c.c1 ++ c.c2),
                       status := { s.status with rvalid := true } }

/-- 40_convert.md R70, R73 outside the documented domain: no fault, RVALID set, and RESULT[23:0] is
the free draw, whatever it is. The draw's form is the model's (entry 7). -/
def Obligations.ConvertOutsideDomainDraws : Prop :=
  ∀ (s : State) (h sat v : Byte), 15 < sat.toNat ∨ 34 < v.toNat →
    exec (.convert h sat v) s =
      .next { s with result := (0 : BitVec 8) ++ Config.anyU24 s.draws,
                     status := { s.status with rvalid := true },
                     draws := s.draws + 1 }

/-- 40_convert.md R60 to R69 in byte arithmetic over the naturals: on the path that computes the
channels, each of the three bytes is the stated number, with no wrap-around. -/
def Obligations.ConverterComputesTheChannels : Prop :=
  ∀ h sat v : Byte, 1 ≤ sat.toNat → sat.toNat ≤ 15 → 1 ≤ v.toNat → v.toNat ≤ 33 →
    let v' := if v.toNat > 17 then 34 - v.toNat else v.toNat
    let high := v' * 15
    let low := v' * (15 - sat.toNat)
    let offset := h.toNat % 16
    let delta := sat.toNat * v' * offset / 16
    let rising := if offset > 0 then low + delta else low
    let falling := if offset > 0 then high - (delta + 1) else high
    ∃ c, hsv2rgb h sat v = some c ∧
      (c.c0.toNat, c.c1.toNat, c.c2.toNat) =
        if h.toNat % 96 < 16 then (high, rising, low)
        else if h.toNat % 96 < 32 then (falling, high, low)
        else if h.toNat % 96 < 48 then (low, high, rising)
        else if h.toNat % 96 < 64 then (low, falling, high)
        else if h.toNat % 96 < 80 then (rising, low, high)
        else (high, low, falling)

/-- 40_convert.md R71: the range of every intermediate value, on the path that reaches it. -/
def Obligations.ConverterIntermediateRanges : Prop :=
  ∀ hue sat value : Int, 0 ≤ hue → hue ≤ 255 → 0 ≤ sat → sat ≤ 15 → 0 ≤ value → value ≤ 34 →
    let v := mirroredValue value
    let offset := segmentOffset hue
    (0 ≤ v ∧ v ≤ 17) ∧ (0 ≤ offset ∧ offset ≤ 15) ∧
    (0 ≤ hue % 96 ∧ hue % 96 ≤ 95) ∧ (0 ≤ sextant hue ∧ sextant hue ≤ 5) ∧
    (1 ≤ v → 15 ≤ peak v ∧ peak v ≤ 255) ∧
    (1 ≤ v → 1 ≤ sat →
      (0 ≤ 15 - sat ∧ 15 - sat ≤ 14) ∧
      (0 ≤ trough sat v ∧ trough sat v ≤ 238) ∧
      (0 ≤ v * offset ∧ v * offset ≤ 255) ∧
      (0 ≤ sat * v * offset ∧ sat * v * offset ≤ 3825) ∧
      (0 ≤ delta sat v offset ∧ delta sat v offset ≤ 239) ∧
      (1 ≤ delta sat v offset + 1 ∧ delta sat v offset + 1 ≤ 240) ∧
      (trough sat v ≤ risingChannel sat v offset ∧ risingChannel sat v offset ≤ peak v - 1) ∧
      (trough sat v ≤ fallingChannel sat v offset ∧ fallingChannel sat v offset ≤ peak v))

/-- 40_convert.md R72: in the documented domain every channel is one of 0, high, low, rising and
falling and is in 0 to 255 before it is narrowed, so the narrowing loses nothing. -/
def Obligations.ChannelsNeverClip : Prop :=
  ∀ h sat v : Byte, sat.toNat ≤ 15 → v.toNat ≤ 34 →
    let e := hsv2rgbExact h.toNat sat.toNat v.toNat
    let m := mirroredValue v.toNat
    let o := segmentOffset h.toNat
    (∀ x ∈ [e.red, e.green, e.blue],
      x = 0 ∨ x = peak m ∨ x = trough sat.toNat m ∨ x = risingChannel sat.toNat m o ∨
        x = fallingChannel sat.toNat m o) ∧
    (0 ≤ e.red ∧ e.red ≤ 255) ∧ (0 ≤ e.green ∧ e.green ≤ 255) ∧ (0 ≤ e.blue ∧ e.blue ≤ 255) ∧
    ∃ c, hsv2rgb h sat v = some c ∧
      (c.c0.toNat : Int) = e.red ∧ (c.c1.toNat : Int) = e.green ∧ (c.c2.toNat : Int) = e.blue

/-- 40_convert.md R74: hue is periodic with period 96, and the step from stored hue 255 to 0 is a jump
from reduced hue 63 to 0. -/
def Obligations.HueIsPeriodic : Prop :=
  (∀ h sat v : Byte, hsv2rgb h sat v = hsv2rgb (h % 96) sat v) ∧
  (∀ sat v : Byte, hsv2rgb 255 sat v = hsv2rgb 63 sat v)

/-- 40_convert.md R75: the mirroring law. -/
def Obligations.ValueMirroringLaw : Prop :=
  ∀ h sat v : Byte, 18 ≤ v.toNat → v.toNat ≤ 34 → hsv2rgb h sat v = hsv2rgb h sat (34 - v)

/-- 40_convert.md R76: the grayscale law, with the mirrored value. -/
def Obligations.GrayscaleLaw : Prop :=
  ∀ h v : Byte, v.toNat ≤ 34 →
    ∃ g : Byte, hsv2rgb h 0 v = some ⟨g, g, g⟩ ∧
      g.toNat = 15 * (if v.toNat > 17 then 34 - v.toNat else v.toNat)

/-- 40_convert.md R77: the black law, for value 0 and for value 34. -/
def Obligations.BlackLaw : Prop :=
  ∀ h sat : Byte, sat.toNat ≤ 15 →
    hsv2rgb h sat 0 = some ⟨0, 0, 0⟩ ∧ hsv2rgb h sat 34 = some ⟨0, 0, 0⟩

/-- 40_convert.md R78: at full value and saturation the six sextant starts are the six saturated
colours, and every channel at a sextant boundary is 0 or 255. -/
def Obligations.NoClippingAtSextantStarts : Prop :=
  (hsv2rgb 0 15 17 = some ⟨255, 0, 0⟩ ∧ hsv2rgb 16 15 17 = some ⟨255, 255, 0⟩ ∧
    hsv2rgb 32 15 17 = some ⟨0, 255, 0⟩ ∧ hsv2rgb 48 15 17 = some ⟨0, 255, 255⟩ ∧
    hsv2rgb 64 15 17 = some ⟨0, 0, 255⟩ ∧ hsv2rgb 80 15 17 = some ⟨255, 0, 255⟩) ∧
  (∀ h : Byte, h.toNat % 16 = 0 → ∃ c, hsv2rgb h 15 17 = some c ∧
    (c.c0 = 0 ∨ c.c0 = 255) ∧ (c.c1 = 0 ∨ c.c1 = 255) ∧ (c.c2 = 0 ∨ c.c2 = 255))

/-- 40_convert.md R79: neighbouring reduced hues, 95 to 0 included, differ by at most 16 in each
channel, and 16 is reached. -/
def Obligations.HueContinuityBoundIsSixteen : Prop :=
  (∀ hr sat v : Nat, hr ≤ 95 → sat ≤ 15 → v ≤ 34 →
    ∃ c d, hsv2rgb (BitVec.ofNat 8 hr) (BitVec.ofNat 8 sat) (BitVec.ofNat 8 v) = some c ∧
      hsv2rgb (BitVec.ofNat 8 ((hr + 1) % 96)) (BitVec.ofNat 8 sat) (BitVec.ofNat 8 v) = some d ∧
      ((c.c0.toNat : Int) - d.c0.toNat).natAbs ≤ 16 ∧
      ((c.c1.toNat : Int) - d.c1.toNat).natAbs ≤ 16 ∧
      ((c.c2.toNat : Int) - d.c2.toNat).natAbs ≤ 16) ∧
  hsv2rgb 16 15 16 = some ⟨240, 240, 0⟩ ∧ hsv2rgb 17 15 16 = some ⟨224, 240, 0⟩

/-- 40_convert.md R80: inside a sextant the rising and the falling channel sum to one less than high
plus low, and the falling one is one darker than the symmetric rule's; at offset 0 neither is
biased. -/
def Obligations.FallingChannelIsOneDarker : Prop :=
  ∀ sat v offset : Int, 0 ≤ offset → offset ≤ 15 →
    (0 < offset →
      risingChannel sat v offset + fallingChannel sat v offset = peak v + trough sat v - 1 ∧
      fallingChannel sat v offset = peak v - delta sat v offset - 1) ∧
    (offset = 0 → risingChannel sat v offset = trough sat v ∧ fallingChannel sat v offset = peak v)

/-! ### WRPIX -/

/-- 41_write_pixel.md R81: a store inside the buffer changes that element alone; at or beyond BUF_LEN
it is a BoundsFault to be raised, and no state results in which an element has changed. -/
def Obligations.WritePixelChecksEveryStore : Prop :=
  ∀ (idx : Nat) (c : Rgb) (s : State), idx ≤ 65535 →
    (idx < s.bufLen →
      ∃ t, writePixel idx c s = .ok t ∧ t.buf.read idx = some c ∧
        (∀ k, k ≠ idx → t.buf.read k = s.buf.read k) ∧ t = { s with buf := t.buf }) ∧
    (s.bufLen ≤ idx → writePixel idx c s = .error (.boundsFault idx))

/-- 41_write_pixel.md R82 inside the buffer: one store of the colour as given, and nothing else
changes. -/
def Obligations.WrpixStoresOneElement : Prop :=
  ∀ (s : State) (index : Index) (color : Rgb), index.toNat < s.bufLen →
    ∃ t, exec (.wrpix index color) s = .next t ∧
      (∀ k, t.buf.read k = if k = index.toNat then some color else s.buf.read k) ∧
      t = { s with buf := t.buf }

/-- 41_write_pixel.md R82 at or beyond BUF_LEN: BoundsFault with FIDX the index, and no store. -/
def Obligations.WrpixOutOfBoundsFaults : Prop :=
  ∀ (s : State) (index : Index) (color : Rgb), s.bufLen ≤ index.toNat →
    exec (.wrpix index color) s =
      .next { s with status := ⟨false, true, s.status.rvalid, 3, index⟩ }

/-! ### Interpolation -/

/-- 42_gradient.md R88: the six laws of `interp`. -/
def Obligations.InterpolationLaws : Prop :=
  (∀ (a b : Byte) (gap : Nat), 1 ≤ gap → gap ≤ 65535 →
    interp a b 0 gap = a ∧ interp a b gap gap = b ∧
    (∀ i, i ≤ gap →
      min a.toNat b.toNat ≤ (interp a b i gap).toNat ∧
      (interp a b i gap).toNat ≤ max a.toNat b.toNat ∧
      (∀ j, i ≤ j → j ≤ gap →
        (a.toNat ≤ b.toNat → (interp a b i gap).toNat ≤ (interp a b j gap).toNat) ∧
        (b.toNat ≤ a.toNat → (interp a b j gap).toNat ≤ (interp a b i gap).toNat)) ∧
      interp a a i gap = a)) ∧
  (interp 0 255 1 4 = 63 ∧ interp 255 0 3 4 = 64)

/-- 42_gradient.md R86, R87: the byte is exactly the integer the formula gives, whatever the gap, and
difference, product and quotient fit the widths of R87. -/
def Obligations.InterpolationIsExact : Prop :=
  ∀ (a b : Byte) (gap i : Nat), 1 ≤ gap → gap ≤ 65535 → i ≤ gap →
    let d : Int := (b.toNat : Int) - a.toNat
    let p : Int := d * i
    let q : Int := Int.tdiv p gap
    ((interp a b i gap).toNat : Int) = a.toNat + q ∧
    d.natAbs ≤ 255 ∧ p.natAbs ≤ 16711425 ∧ q.natAbs ≤ d.natAbs ∧
    0 ≤ a.toNat + q ∧ a.toNat + q ≤ 255

/-! ### FILLHSV and FILLRGB: acceptance and fill steps -/

/-- 42_gradient.md R89: a fill whose end index is not below its start index loads the nine latches,
puts STEP to 0 and BUSY to 1; no element and nothing else changes. -/
def Obligations.FillIsAccepted : Prop :=
  ∀ (s : State) (si ei : Index) (sc ec : Triple), si.toNat ≤ ei.toNat →
    exec (.fillhsv si sc ei ec) s =
      .next { s with latch := ⟨0x03, si, sc, ei, ec⟩, stepCtr := 0,
                     status := { s.status with busy := true } } ∧
    exec (.fillrgb si sc ei ec) s =
      .next { s with latch := ⟨0x04, si, sc, ei, ec⟩, stepCtr := 0,
                     status := { s.status with busy := true } }

/-- 42_gradient.md R94: a fill whose end index is below its start index raises RangeFault at
acceptance: no element, latch or STEP changes, and FIDX is 0. -/
def Obligations.ReversedFillRaisesRangeFault : Prop :=
  ∀ (s : State) (si ei : Index) (sc ec : Triple), ei.toNat < si.toNat →
    exec (.fillhsv si sc ei ec) s =
      .next { s with status := ⟨false, true, s.status.rvalid, 2, 0⟩ } ∧
    exec (.fillrgb si sc ei ec) s =
      .next { s with status := ⟨false, true, s.status.rvalid, 2, 0⟩ }

/-- 42_gradient.md R90, R92: the fill step of FILLRGB inside the buffer stores the interpolated
components at `start_index + STEP` and nowhere else, and ends the fill or advances STEP. -/
def Obligations.FillrgbStepStoresTheComponents : Prop :=
  ∀ s : State, s.filling → s.latch.op = 0x04 →
    s.latch.si.toNat + s.stepCtr.toNat < s.bufLen →
    ∃ t, step s = .next t ∧
      (∀ k, t.buf.read k =
        if k = s.latch.si.toNat + s.stepCtr.toNat
        then some (gradientAt s.latch.si s.latch.sc s.latch.ei s.latch.ec k)
        else s.buf.read k) ∧
      (s.latch.si.toNat + s.stepCtr.toNat = s.latch.ei.toNat →
        t = { s with buf := t.buf, status := { s.status with busy := false } }) ∧
      (s.latch.si.toNat + s.stepCtr.toNat ≠ s.latch.ei.toNat →
        t = { s with buf := t.buf, stepCtr := s.stepCtr + 1 })

/-- 42_gradient.md R90, R91, 40_convert.md R73: the fill step of FILLHSV inside the buffer stores the
converted triple, or the free draw where the interpolated triple is outside the domain (entry 7),
and ends the fill or advances STEP. -/
def Obligations.FillhsvStepStoresTheConversion : Prop :=
  ∀ s : State, s.filling → s.latch.op = 0x03 →
    s.latch.si.toNat + s.stepCtr.toNat < s.bufLen →
    let k := s.latch.si.toNat + s.stepCtr.toNat
    let x := gradientAt s.latch.si s.latch.sc s.latch.ei s.latch.ec k
    ∃ t c, step s = .next t ∧
      (hsv2rgb x.c0 x.c1 x.c2 = some c ∧ t.draws = s.draws ∨
        hsv2rgb x.c0 x.c1 x.c2 = none ∧ c.pack24 = Config.anyU24 s.draws ∧
          t.draws = s.draws + 1) ∧
      (∀ j, t.buf.read j = if j = k then some c else s.buf.read j) ∧
      (k = s.latch.ei.toNat →
        t = { s with buf := t.buf, draws := t.draws,
                     status := { s.status with busy := false } }) ∧
      (k ≠ s.latch.ei.toNat →
        t = { s with buf := t.buf, draws := t.draws, stepCtr := s.stepCtr + 1 })

/-- 42_gradient.md R90, 60 R107: the fill step outside the buffer raises BoundsFault with FIDX the
index of the step; no element changes, and STEP and LATCH keep their values. -/
def Obligations.FillStepOutOfBoundsFaults : Prop :=
  ∀ s : State, s.filling → s.bufLen ≤ s.latch.si.toNat + s.stepCtr.toNat →
    s.latch.si.toNat + s.stepCtr.toNat ≤ 65535 →
    step s = .next { s with status :=
      ⟨false, true, s.status.rvalid, 3, s.latch.si + s.stepCtr⟩ }

/-- 42_gradient.md R93: a fill whose indices are equal writes exactly one element, the start colour
(converted, for FILLHSV; some colour where the conversion is unspecified), whatever the end colour is,
and ends. -/
def Obligations.EqualIndicesStoreTheStartColor : Prop :=
  ∀ (s : State) (k : Index) (sc ec : Triple), s.ready → k.toNat < s.bufLen →
    (∃ t u, exec (.fillrgb k sc k ec) s = .next t ∧ step t = .next u ∧
      u.status = s.status ∧
      ∀ j, u.buf.read j = if j = k.toNat then some sc else s.buf.read j) ∧
    (∃ t u c, exec (.fillhsv k sc k ec) s = .next t ∧ step t = .next u ∧
      (hsv2rgb sc.c0 sc.c1 sc.c2 = some c ∨ hsv2rgb sc.c0 sc.c1 sc.c2 = none) ∧
      u.status = s.status ∧
      ∀ j, u.buf.read j = if j = k.toNat then some c else s.buf.read j)

/-! ### FILLHSV and FILLRGB: whole fills -/

/-- 42_gradient.md R96: from its first fill step on, a fill inside the buffer run step by step leaves
what the whole-command form leaves, with BUSY = 0. STEP stays at the gap (93 U5 leaves it open) and the
draws agree: that both are said is the model's choice (entries 5, 7). -/
def Obligations.StepsAgreeWithWholeCommandForm : Prop :=
  ∀ s : State, s.filling → s.stepCtr = 0 → s.latch.si.toNat ≤ s.latch.ei.toNat →
    s.latch.ei.toNat < s.bufLen →
    runCore (s.latch.ei.toNat - s.latch.si.toNat + 1) s =
      .next { wholeFill s.latch s with
        status := { s.status with busy := false }, stepCtr := s.latch.ei - s.latch.si }

/-- 42_gradient.md R92, R98: FILLRGB, accepted from the port, takes its acceptance and gap + 1 fill
steps, writes exactly the indices from start to end, each with its interpolated colour, and leaves
RESULT, STATUS and everything else but LATCH and STEP as it was. -/
def Obligations.FillrgbFillsTheRange : Prop :=
  ∀ (s : State) (si ei : Index) (sc ec : Rgb), s.ready →
    s.port = some (encode (.fillrgb si sc ei ec)) →
    si.toNat ≤ ei.toNat → ei.toNat < s.bufLen →
    ∃ t, runCore (ei.toNat - si.toNat + 2) s = .next t ∧
      (∀ k, t.buf.read k =
        if si.toNat ≤ k ∧ k ≤ ei.toNat then some (gradientAt si sc ei ec k)
        else s.buf.read k) ∧
      t = { s with buf := t.buf, port := none, latch := t.latch, stepCtr := t.stepCtr }

/-- 42_gradient.md R91, R98, R99: FILLHSV between two colours of the documented domain writes exactly
the indices from start to end, each with the conversion of its interpolated triple, and draws
nothing. -/
def Obligations.FillhsvFillsTheRange : Prop :=
  ∀ (s : State) (si ei : Index) (sc ec : Hsv), s.ready →
    s.port = some (encode (.fillhsv si sc ei ec)) →
    si.toNat ≤ ei.toNat → ei.toNat < s.bufLen →
    sc.c1.toNat ≤ 15 → sc.c2.toNat ≤ 34 → ec.c1.toNat ≤ 15 → ec.c2.toNat ≤ 34 →
    ∃ t, runCore (ei.toNat - si.toNat + 2) s = .next t ∧
      (∀ k, si.toNat ≤ k → k ≤ ei.toNat →
        ∃ c, hsv2rgb (gradientAt si sc ei ec k).c0 (gradientAt si sc ei ec k).c1
            (gradientAt si sc ei ec k).c2 = some c ∧ t.buf.read k = some c) ∧
      (∀ k, k < si.toNat ∨ ei.toNat < k → t.buf.read k = s.buf.read k) ∧
      t = { s with buf := t.buf, port := none, latch := t.latch, stepCtr := t.stepCtr }

/-- 70 R130: while a fill runs, the elements below `start_index + STEP` are new and the others old.
After the acceptance and n of its fill steps, n at most the gap, STEP is n and BUSY is 1. The new
elements hold the colours of the gradient, converted for FILLHSV (unspecified only where an end colour
is outside the documented domain, 42_gradient.md R99). -/
def Obligations.RunningFillHasWrittenAPrefix : Prop :=
  ∀ (s : State) (si ei : Index) (sc ec : Triple) (n : Nat), s.ready →
    si.toNat + n ≤ ei.toNat → ei.toNat < s.bufLen →
    (s.port = some (encode (.fillrgb si sc ei ec)) →
      ∃ t, runCore (n + 1) s = .next t ∧ t.status.busy = true ∧ t.stepCtr.toNat = n ∧
        ∀ k, t.buf.read k =
          if si.toNat ≤ k ∧ k < si.toNat + n then some (gradientAt si sc ei ec k)
          else s.buf.read k) ∧
    (s.port = some (encode (.fillhsv si sc ei ec)) →
      ∃ t, runCore (n + 1) s = .next t ∧ t.status.busy = true ∧ t.stepCtr.toNat = n ∧
        (∀ k, si.toNat ≤ k → k < si.toNat + n →
          ∃ c, t.buf.read k = some c ∧ IsFillhsvColor si sc ei ec k c) ∧
        (∀ k, k < si.toNat ∨ si.toNat + n ≤ k → t.buf.read k = s.buf.read k))

/-- 42_gradient.md R97: a fill that runs off the end of the buffer leaves the elements up to
BUF_LEN - 1 with the colours of the full gradient, converted for FILLHSV (unspecified only where an end
colour is outside the documented domain, R99), and faults with FIDX = BUF_LEN; one that starts outside
writes nothing and faults with FIDX = start_index. -/
def Obligations.BoundsFaultLeavesTheEarlierWrites : Prop :=
  ∀ (s : State) (si ei : Index) (sc ec : Triple), s.ready → si.toNat ≤ ei.toNat →
    (s.port = some (encode (.fillrgb si sc ei ec)) → si.toNat < s.bufLen → s.bufLen ≤ ei.toNat →
      ∃ t, runCore (s.bufLen - si.toNat + 2) s = .next t ∧
        t.status = ⟨false, true, s.status.rvalid, 3, BitVec.ofNat 16 s.bufLen⟩ ∧
        ∀ k, t.buf.read k =
          if si.toNat ≤ k ∧ k < s.bufLen then some (gradientAt si sc ei ec k)
          else s.buf.read k) ∧
    (s.port = some (encode (.fillhsv si sc ei ec)) → si.toNat < s.bufLen → s.bufLen ≤ ei.toNat →
      ∃ t, runCore (s.bufLen - si.toNat + 2) s = .next t ∧
        t.status = ⟨false, true, s.status.rvalid, 3, BitVec.ofNat 16 s.bufLen⟩ ∧
        (∀ k, si.toNat ≤ k → k < s.bufLen →
          ∃ c, t.buf.read k = some c ∧ IsFillhsvColor si sc ei ec k c) ∧
        (∀ k, k < si.toNat ∨ s.bufLen ≤ k → t.buf.read k = s.buf.read k)) ∧
    (s.port = some (encode (.fillrgb si sc ei ec)) ∨
        s.port = some (encode (.fillhsv si sc ei ec)) →
      s.bufLen ≤ si.toNat →
      ∃ t, runCore 2 s = .next t ∧
        t.status = ⟨false, true, s.status.rvalid, 3, si⟩ ∧ t.buf = s.buf)

/-- 42_gradient.md R101: when the two colours of a fill are equal every index of its range receives
the same colour. -/
def Obligations.SolidFillStoresOneColor : Prop :=
  ∀ (s : State) (si ei : Index) (x : Triple), s.ready → si.toNat ≤ ei.toNat →
    ei.toNat < s.bufLen →
    (s.port = some (encode (Instr.solidRgb si ei x)) →
      ∃ t, runCore (ei.toNat - si.toNat + 2) s = .next t ∧
        ∀ k, si.toNat ≤ k → k ≤ ei.toNat → t.buf.read k = some x) ∧
    (∀ c, s.port = some (encode (Instr.solidHsv si ei x)) → hsv2rgb x.c0 x.c1 x.c2 = some c →
      ∃ t, runCore (ei.toNat - si.toNat + 2) s = .next t ∧
        ∀ k, si.toNat ≤ k → k ≤ ei.toNat → t.buf.read k = some c)

/-- 42_gradient.md R88(a), (b): a finished fill over more than one index holds exactly the start colour
at the start index and exactly the end colour at the end index, converted for FILLHSV. -/
def Obligations.FillEndpointsAreExact : Prop :=
  ∀ (s : State) (si ei : Index) (sc ec : Triple), s.ready → si.toNat < ei.toNat →
    ei.toNat < s.bufLen →
    (s.port = some (encode (.fillrgb si sc ei ec)) →
      ∃ t, runCore (ei.toNat - si.toNat + 2) s = .next t ∧
        t.buf.read si.toNat = some sc ∧ t.buf.read ei.toNat = some ec) ∧
    (∀ c d, s.port = some (encode (.fillhsv si sc ei ec)) →
      hsv2rgb sc.c0 sc.c1 sc.c2 = some c → hsv2rgb ec.c0 ec.c1 ec.c2 = some d →
      ∃ t, runCore (ei.toNat - si.toNat + 2) s = .next t ∧
        t.buf.read si.toNat = some c ∧ t.buf.read ei.toNat = some d)

/-- 60 R122: while BUSY = 1 the fill step is always enabled, so a fill ends, by its last step or a
BoundsFault, within 65536 fill steps. -/
def Obligations.EveryFillTerminates : Prop :=
  ∀ s : State, Inv s → s.filling →
    ∃ n t, n ≤ 65536 ∧ runCore n s = .next t ∧ t.status.busy = false

/-- 70 R133, R128, 60 R122: every command whose operands keep the host's duties, offered to a core that
can accept it, comes to a normal end within 65537 steps, without a fault and without an unspecified
value: the draw counter (the model's, entry 7) is as before. -/
def Obligations.DutifulCommandsEndNormally : Prop :=
  ∀ (s : State) (i : Instr), s.ready → s.port = some (encode i) →
    dutiesKept s.bufLen i = true →
    ∃ n t, n ≤ 65537 ∧ runCore n s = .next t ∧ NormalEnd [] t ∧ t.draws = s.draws

/-! ### The machine as a whole -/

/-- Every step keeps the invariant of the core: the buffer's canonical form (the model's, entry 1) and
bounds, a legal BUF_LEN (entry 3), the zero bits of RESULT (10_state.md R27), what FAULT, CAUSE, FIDX
and BUSY say of each other (R25, 60 R106, R108), the latches and STEP of a fill (R22, 42 R89). -/
def Obligations.StepKeepsTheInvariant : Prop :=
  ∀ s t : State, Inv s → step s = .next t → Inv t

/-- The state after reset has the invariant; its BUF_LEN is the model's choice (entry 3). -/
def Obligations.ResetHasTheInvariant : Prop :=
  Inv State.reset

/-- 70 R126, R127, 93 U9, U10: so has every launch state, whatever the legal BUF_LEN and the
contents the host lists. -/
def Obligations.LaunchHasTheInvariant : Prop :=
  ∀ (n : Nat) (m : Memory), 1 ≤ n → n ≤ 65536 → m.wf = true → m.below n = true →
    Inv (State.launch n m)

/-- 20_memory.md R37, R40: one step changes at most the element it stores to, and never one outside
the buffer. BUF_LEN never changes (R33). -/
def Obligations.StepStoresOneElementInsideTheBuffer : Prop :=
  ∀ s t : State, step s = .next t →
    t.bufLen = s.bufLen ∧
    (∀ k, s.storeIndex ≠ some k → t.buf.read k = s.buf.read k) ∧
    (∀ k, s.bufLen ≤ k → t.buf.read k = s.buf.read k)

/-- 20_memory.md R34: the core never reads the buffer. With other contents in BUF a step ends alike,
leaves the same state but for BUF, and writes the same element with the same colour. It compares two
steps from equal draw counters: that free values agree in them (RESULT of a CONVERT and the pixel of a
FILLHSV step outside the domain; RESULT[23:0], STEP and LATCH after reset) is the model's choice
(entries 6, 7). -/
def Obligations.CoreNeverReadsTheBuffer : Prop :=
  ∀ (s : State) (m : Memory),
    (∀ r, step s = .fault r → step { s with buf := m } = .fault r) ∧
    (∀ t, step s = .next t →
      ∃ t', step { s with buf := m } = .next t' ∧ t' = { t with buf := t'.buf } ∧
        ∀ k, (t.buf.read k = s.buf.read k ∧ t'.buf.read k = m.read k) ∨
          (s.storeIndex = some k ∧ t'.buf.read k = t.buf.read k))

/-- 10_state.md R19, R22, 93 U5: what LATCH and STEP hold while the core is not in a fill can change
nothing: the next step either loads both (a fill has been accepted) or leaves both and does the same.
The model's choice: that every command but an accepted fill leaves both as they were (entry 5; R19 says
only that CONVERT and WRPIX need not load LATCH), and that a CONVERT outside the domain draws the same
value in both steps (entry 7). -/
def Obligations.LatchAndStepMatterOnlyInAFill : Prop :=
  ∀ (s : State) (l : Latch) (n : BitVec 16), s.ready →
    ∃ t t', step s = .next t ∧ step { s with latch := l, stepCtr := n } = .next t' ∧
      ((t.status.busy = true ∧ t' = t) ∨
        (t.status.busy = false ∧ t.latch = s.latch ∧ t.stepCtr = s.stepCtr ∧
          t' = { t with latch := l, stepCtr := n }))

/-- 93 U1: "Each use is a separate draw". A step that writes a free value (the reset step, a CONVERT or
a FILLHSV step whose conversion is unspecified) writes the one numbered by the draw counter and advances
the counter; no other step moves it, so in no run does a later use have an earlier one's number. The
reset step takes its three values from three constants at one number. The counter and the constants are
the model's choice (entries 6, 7). -/
def Obligations.EachDrawIsASeparateOne : Prop :=
  (∀ s t : State, step s = .next t →
    (s.resetIn = true →
      t.draws = s.draws + 1 ∧ t.result = (0 : BitVec 8) ++ Config.anyU24 s.draws ∧
      t.stepCtr = Config.anyStep s.draws ∧ t.latch = Latch.ofBits (Config.anyLatch s.draws)) ∧
    (s.convertDraws →
      t.draws = s.draws + 1 ∧ t.result = (0 : BitVec 8) ++ Config.anyU24 s.draws) ∧
    (s.fillStepDraws →
      t.draws = s.draws + 1 ∧
      ∃ c, c.pack24 = Config.anyU24 s.draws ∧
        t.buf.read (s.latch.si.toNat + s.stepCtr.toNat) = some c) ∧
    (s.resetIn = false → ¬ s.convertDraws → ¬ s.fillStepDraws → t.draws = s.draws)) ∧
  (∀ (s t u : State) (n : Nat), s.resetIn = true ∨ s.convertDraws ∨ s.fillStepDraws →
    step s = .next t → runCore n t = .next u → s.draws < u.draws)

/-- 70 R131, 93 U8: the host's store changes one element of the buffer outside the fill in progress
and nothing else; inside it, or outside the buffer, it is refused by name (the model's choice,
entry 12). -/
def Obligations.HostStoreKeepsOutOfTheFill : Prop :=
  ∀ (s : State) (k : Nat) (c : Rgb),
    (s.bufLen ≤ k → hostStore k c s = .refused (.noSuchElement k)) ∧
    (k < s.bufLen → s.status.busy = true → s.latch.si.toNat ≤ k → k ≤ s.latch.ei.toNat →
      hostStore k c s = .refused (.contestedElement k)) ∧
    (k < s.bufLen → s.status.busy = false ∨ k < s.latch.si.toNat ∨ s.latch.ei.toNat < k →
      ∃ t, hostStore k c s = .next t ∧ t = { s with buf := t.buf } ∧
        ∀ j, t.buf.read j = if j = k then some c else s.buf.read j)
end

