-- ==== Sys2Proof/Laws/Memory.lean ====
section
/-! SUPPORT. The buffer: a read after a write, the canonical form is kept, and equal reads are equal
buffers. -/

namespace Sys2Proof.Machine

theorem Memory.read_cons (a : Nat) (d : Rgb) (rest : Memory) (j : Nat) :
    Memory.read ((a, d) :: rest) j = if a = j then some d else Memory.read rest j := rfl

theorem Memory.read_write (m : Memory) (k j : Nat) (c : Rgb) :
    (m.write k c).read j = if k = j then some c else m.read j := by
  induction m with
  | nil => rfl
  | cons e rest ih =>
    obtain ⟨a, d⟩ := e
    rw [Memory.write]
    by_cases h1 : k < a
    · rw [if_pos h1, Memory.read_cons]
    · rw [if_neg h1]
      by_cases h2 : k = a
      · subst h2
        rw [if_pos rfl, Memory.read_cons, Memory.read_cons]
        by_cases h : k = j <;> simp [h]
      · rw [if_neg h2, Memory.read_cons, Memory.read_cons, ih]
        by_cases h : a = j
        · have : k ≠ j := by omega
          simp [h, this]
        · simp [h]

@[simp] theorem Memory.read_write_same (m : Memory) (k : Nat) (c : Rgb) :
    (m.write k c).read k = some c := by
  simp [Memory.read_write]

theorem Memory.read_write_other (m : Memory) {k j : Nat} (c : Rgb) (h : k ≠ j) :
    (m.write k c).read j = m.read j := by
  simp [Memory.read_write, h]

theorem Memory.risingFrom_write {m : Memory} {lo k : Nat} (c : Rgb) (hlo : lo < k)
    (h : Memory.risingFrom lo m = true) : Memory.risingFrom lo (m.write k c) = true := by
  induction m generalizing lo with
  | nil => simp [Memory.write, Memory.risingFrom, hlo]
  | cons e rest ih =>
    obtain ⟨a, d⟩ := e
    simp only [Memory.risingFrom, Bool.and_eq_true, decide_eq_true_eq] at h
    unfold Memory.write
    split_ifs with h1 h2
    · simp [Memory.risingFrom, hlo, h1, h.2]
    · subst h2
      simp [Memory.risingFrom, hlo, h.2]
    · simp [Memory.risingFrom, h.1, ih (by omega) h.2]

/-- Every memory operation keeps the canonical form: the one operation that changes it is the
write. -/
theorem Memory.wf_write {m : Memory} (k : Nat) (c : Rgb) (h : m.wf = true) :
    (m.write k c).wf = true := by
  cases m with
  | nil => rfl
  | cons e rest =>
    obtain ⟨a, d⟩ := e
    unfold Memory.write
    split_ifs with h1 h2
    · simpa [Memory.wf, Memory.risingFrom, h1] using h
    · subst h2
      simpa [Memory.wf] using h
    · exact Memory.risingFrom_write c (by omega) h

theorem Memory.wf_reset : State.reset.buf.wf = true := rfl

theorem Memory.below_write {m : Memory} {k n : Nat} (c : Rgb) (hk : k < n)
    (h : m.below n = true) : (m.write k c).below n = true := by
  induction m with
  | nil => simp [Memory.write, Memory.below, hk]
  | cons e rest ih =>
    obtain ⟨a, d⟩ := e
    simp only [Memory.below, Bool.and_eq_true, decide_eq_true_eq] at h
    unfold Memory.write
    split_ifs with h1 h2 <;> simp [Memory.below, hk, h.1, h.2, ih]

theorem Memory.read_of_risingFrom {m : Memory} {lo k : Nat} (h : Memory.risingFrom lo m = true)
    (hk : k ≤ lo) : m.read k = none := by
  induction m generalizing lo with
  | nil => rfl
  | cons e rest ih =>
    obtain ⟨a, d⟩ := e
    simp only [Memory.risingFrom, Bool.and_eq_true, decide_eq_true_eq] at h
    have : a ≠ k := by omega
    simp [Memory.read, this, ih h.2 (by omega)]

/-- The form is canonical: two buffers that read alike are the same data. -/
theorem Memory.ext_of_wf {m n : Memory} (hm : m.wf = true) (hn : n.wf = true)
    (h : ∀ k, m.read k = n.read k) : m = n := by
  induction m generalizing n with
  | nil =>
    cases n with
    | nil => rfl
    | cons e rest => simpa [Memory.read] using h e.1
  | cons e rest ih =>
    obtain ⟨a, d⟩ := e
    cases n with
    | nil => simpa [Memory.read] using h a
    | cons e' rest' =>
      obtain ⟨b, d'⟩ := e'
      have hab : a = b := by
        by_contra hne
        rcases Nat.lt_or_gt_of_ne hne with hlt | hlt
        · have h1 := h a
          have h2 := Memory.read_of_risingFrom (m := rest') (lo := b) (k := a) hn (by omega)
          simp [Memory.read, h2, Ne.symm hne] at h1
        · have h1 := h b
          have h2 := Memory.read_of_risingFrom (m := rest) (lo := a) (k := b) hm (by omega)
          simp [Memory.read, h2, hne] at h1
      subst hab
      have hd : d = d' := by simpa [Memory.read] using h a
      subst hd
      have wf_tail : ∀ {r : Memory}, Memory.risingFrom a r = true → r.wf = true := by
        intro r hr
        cases r with
        | nil => rfl
        | cons x y => 
          simp only [Memory.risingFrom, Bool.and_eq_true] at hr
          exact hr.2
      have : rest = rest' := by
        refine ih (wf_tail hm) (wf_tail hn) fun k => ?_
        by_cases hk : a = k
        · subst hk
          rw [Memory.read_of_risingFrom hm le_rfl, Memory.read_of_risingFrom hn le_rfl]
        · simpa [Memory.read, hk] using h k
      rw [this]

end Sys2Proof.Machine
end

