-- ==== Sys2Proof/Laws/State.lean ====
section
/-! SUPPORT. One lemma per field and update of State and Status, each true by rfl: later proofs unfold
no record update. -/

namespace Sys2Proof.Machine

@[simp] theorem Status.faulted_busy (st : Status) (f : FaultCause) : (st.faulted f).busy = false := rfl
@[simp] theorem Status.faulted_fault (st : Status) (f : FaultCause) : (st.faulted f).fault = true := rfl
@[simp] theorem Status.faulted_rvalid (st : Status) (f : FaultCause) : (st.faulted f).rvalid = st.rvalid := rfl
@[simp] theorem Status.faulted_cause (st : Status) (f : FaultCause) : (st.faulted f).cause = f.code := rfl
@[simp] theorem Status.faulted_fidx (st : Status) (f : FaultCause) : (st.faulted f).fidx = f.fidx := rfl

@[simp] theorem Status.setBusy_busy (st : Status) : (st.setBusy).busy = true := rfl
@[simp] theorem Status.setBusy_fault (st : Status) : (st.setBusy).fault = st.fault := rfl
@[simp] theorem Status.setBusy_rvalid (st : Status) : (st.setBusy).rvalid = st.rvalid := rfl
@[simp] theorem Status.setBusy_cause (st : Status) : (st.setBusy).cause = st.cause := rfl
@[simp] theorem Status.setBusy_fidx (st : Status) : (st.setBusy).fidx = st.fidx := rfl

@[simp] theorem Status.clearBusy_busy (st : Status) : (st.clearBusy).busy = false := rfl
@[simp] theorem Status.clearBusy_fault (st : Status) : (st.clearBusy).fault = st.fault := rfl
@[simp] theorem Status.clearBusy_rvalid (st : Status) : (st.clearBusy).rvalid = st.rvalid := rfl
@[simp] theorem Status.clearBusy_cause (st : Status) : (st.clearBusy).cause = st.cause := rfl
@[simp] theorem Status.clearBusy_fidx (st : Status) : (st.clearBusy).fidx = st.fidx := rfl

@[simp] theorem Status.setRvalid_busy (st : Status) : (st.setRvalid).busy = st.busy := rfl
@[simp] theorem Status.setRvalid_fault (st : Status) : (st.setRvalid).fault = st.fault := rfl
@[simp] theorem Status.setRvalid_rvalid (st : Status) : (st.setRvalid).rvalid = true := rfl
@[simp] theorem Status.setRvalid_cause (st : Status) : (st.setRvalid).cause = st.cause := rfl
@[simp] theorem Status.setRvalid_fidx (st : Status) : (st.setRvalid).fidx = st.fidx := rfl

@[simp] theorem Status.cleared_busy  : (Status.cleared).busy = false := rfl
@[simp] theorem Status.cleared_fault  : (Status.cleared).fault = false := rfl
@[simp] theorem Status.cleared_rvalid  : (Status.cleared).rvalid = false := rfl
@[simp] theorem Status.cleared_cause  : (Status.cleared).cause = 0 := rfl
@[simp] theorem Status.cleared_fidx  : (Status.cleared).fidx = 0 := rfl

@[simp] theorem State.raise_buf (f : FaultCause) (s : State) : (s.raise f).buf = s.buf := rfl
@[simp] theorem State.raise_latch (f : FaultCause) (s : State) : (s.raise f).latch = s.latch := rfl
@[simp] theorem State.raise_stepCtr (f : FaultCause) (s : State) : (s.raise f).stepCtr = s.stepCtr := rfl
@[simp] theorem State.raise_status (f : FaultCause) (s : State) : (s.raise f).status = s.status.faulted f := rfl
@[simp] theorem State.raise_result (f : FaultCause) (s : State) : (s.raise f).result = s.result := rfl
@[simp] theorem State.raise_port (f : FaultCause) (s : State) : (s.raise f).port = s.port := rfl
@[simp] theorem State.raise_resetIn (f : FaultCause) (s : State) : (s.raise f).resetIn = s.resetIn := rfl
@[simp] theorem State.raise_bufLen (f : FaultCause) (s : State) : (s.raise f).bufLen = s.bufLen := rfl
@[simp] theorem State.raise_draws (f : FaultCause) (s : State) : (s.raise f).draws = s.draws := rfl

@[simp] theorem State.drawU24_value (s : State) : s.drawU24.1 = Config.anyU24 s.draws := rfl
@[simp] theorem State.drawU24_state (s : State) : s.drawU24.2 = s.nextDraw := rfl

@[simp] theorem State.nextDraw_buf (s : State) : (s.nextDraw).buf = s.buf := rfl
@[simp] theorem State.nextDraw_latch (s : State) : (s.nextDraw).latch = s.latch := rfl
@[simp] theorem State.nextDraw_stepCtr (s : State) : (s.nextDraw).stepCtr = s.stepCtr := rfl
@[simp] theorem State.nextDraw_status (s : State) : (s.nextDraw).status = s.status := rfl
@[simp] theorem State.nextDraw_result (s : State) : (s.nextDraw).result = s.result := rfl
@[simp] theorem State.nextDraw_port (s : State) : (s.nextDraw).port = s.port := rfl
@[simp] theorem State.nextDraw_resetIn (s : State) : (s.nextDraw).resetIn = s.resetIn := rfl
@[simp] theorem State.nextDraw_bufLen (s : State) : (s.nextDraw).bufLen = s.bufLen := rfl
@[simp] theorem State.nextDraw_draws (s : State) : (s.nextDraw).draws = s.draws + 1 := rfl

@[simp] theorem State.store_buf (k : Nat) (c : Rgb) (s : State) : (s.store k c).buf = s.buf.write k c := rfl
@[simp] theorem State.store_latch (k : Nat) (c : Rgb) (s : State) : (s.store k c).latch = s.latch := rfl
@[simp] theorem State.store_stepCtr (k : Nat) (c : Rgb) (s : State) : (s.store k c).stepCtr = s.stepCtr := rfl
@[simp] theorem State.store_status (k : Nat) (c : Rgb) (s : State) : (s.store k c).status = s.status := rfl
@[simp] theorem State.store_result (k : Nat) (c : Rgb) (s : State) : (s.store k c).result = s.result := rfl
@[simp] theorem State.store_port (k : Nat) (c : Rgb) (s : State) : (s.store k c).port = s.port := rfl
@[simp] theorem State.store_resetIn (k : Nat) (c : Rgb) (s : State) : (s.store k c).resetIn = s.resetIn := rfl
@[simp] theorem State.store_bufLen (k : Nat) (c : Rgb) (s : State) : (s.store k c).bufLen = s.bufLen := rfl
@[simp] theorem State.store_draws (k : Nat) (c : Rgb) (s : State) : (s.store k c).draws = s.draws := rfl

@[simp] theorem State.consume_buf (s : State) : (s.consume).buf = s.buf := rfl
@[simp] theorem State.consume_latch (s : State) : (s.consume).latch = s.latch := rfl
@[simp] theorem State.consume_stepCtr (s : State) : (s.consume).stepCtr = s.stepCtr := rfl
@[simp] theorem State.consume_status (s : State) : (s.consume).status = s.status := rfl
@[simp] theorem State.consume_result (s : State) : (s.consume).result = s.result := rfl
@[simp] theorem State.consume_port (s : State) : (s.consume).port = none := rfl
@[simp] theorem State.consume_resetIn (s : State) : (s.consume).resetIn = s.resetIn := rfl
@[simp] theorem State.consume_bufLen (s : State) : (s.consume).bufLen = s.bufLen := rfl
@[simp] theorem State.consume_draws (s : State) : (s.consume).draws = s.draws := rfl

@[simp] theorem State.endFill_buf (s : State) : (s.endFill).buf = s.buf := rfl
@[simp] theorem State.endFill_latch (s : State) : (s.endFill).latch = s.latch := rfl
@[simp] theorem State.endFill_stepCtr (s : State) : (s.endFill).stepCtr = s.stepCtr := rfl
@[simp] theorem State.endFill_status (s : State) : (s.endFill).status = s.status.clearBusy := rfl
@[simp] theorem State.endFill_result (s : State) : (s.endFill).result = s.result := rfl
@[simp] theorem State.endFill_port (s : State) : (s.endFill).port = s.port := rfl
@[simp] theorem State.endFill_resetIn (s : State) : (s.endFill).resetIn = s.resetIn := rfl
@[simp] theorem State.endFill_bufLen (s : State) : (s.endFill).bufLen = s.bufLen := rfl
@[simp] theorem State.endFill_draws (s : State) : (s.endFill).draws = s.draws := rfl

@[simp] theorem State.nextIteration_buf (s : State) : (s.nextIteration).buf = s.buf := rfl
@[simp] theorem State.nextIteration_latch (s : State) : (s.nextIteration).latch = s.latch := rfl
@[simp] theorem State.nextIteration_stepCtr (s : State) : (s.nextIteration).stepCtr = s.stepCtr + 1 := rfl
@[simp] theorem State.nextIteration_status (s : State) : (s.nextIteration).status = s.status := rfl
@[simp] theorem State.nextIteration_result (s : State) : (s.nextIteration).result = s.result := rfl
@[simp] theorem State.nextIteration_port (s : State) : (s.nextIteration).port = s.port := rfl
@[simp] theorem State.nextIteration_resetIn (s : State) : (s.nextIteration).resetIn = s.resetIn := rfl
@[simp] theorem State.nextIteration_bufLen (s : State) : (s.nextIteration).bufLen = s.bufLen := rfl
@[simp] theorem State.nextIteration_draws (s : State) : (s.nextIteration).draws = s.draws := rfl

@[simp] theorem State.beginFill_buf (l : Latch) (s : State) : (s.beginFill l).buf = s.buf := rfl
@[simp] theorem State.beginFill_latch (l : Latch) (s : State) : (s.beginFill l).latch = l := rfl
@[simp] theorem State.beginFill_stepCtr (l : Latch) (s : State) : (s.beginFill l).stepCtr = 0 := rfl
@[simp] theorem State.beginFill_status (l : Latch) (s : State) : (s.beginFill l).status = s.status.setBusy := rfl
@[simp] theorem State.beginFill_result (l : Latch) (s : State) : (s.beginFill l).result = s.result := rfl
@[simp] theorem State.beginFill_port (l : Latch) (s : State) : (s.beginFill l).port = s.port := rfl
@[simp] theorem State.beginFill_resetIn (l : Latch) (s : State) : (s.beginFill l).resetIn = s.resetIn := rfl
@[simp] theorem State.beginFill_bufLen (l : Latch) (s : State) : (s.beginFill l).bufLen = s.bufLen := rfl
@[simp] theorem State.beginFill_draws (l : Latch) (s : State) : (s.beginFill l).draws = s.draws := rfl

@[simp] theorem State.returnColor_buf (c : Rgb) (s : State) : (s.returnColor c).buf = s.buf := rfl
@[simp] theorem State.returnColor_latch (c : Rgb) (s : State) : (s.returnColor c).latch = s.latch := rfl
@[simp] theorem State.returnColor_stepCtr (c : Rgb) (s : State) : (s.returnColor c).stepCtr = s.stepCtr := rfl
@[simp] theorem State.returnColor_status (c : Rgb) (s : State) : (s.returnColor c).status = s.status.setRvalid := rfl
@[simp] theorem State.returnColor_result (c : Rgb) (s : State) : (s.returnColor c).result = resultWord c.pack24 := rfl
@[simp] theorem State.returnColor_port (c : Rgb) (s : State) : (s.returnColor c).port = s.port := rfl
@[simp] theorem State.returnColor_resetIn (c : Rgb) (s : State) : (s.returnColor c).resetIn = s.resetIn := rfl
@[simp] theorem State.returnColor_bufLen (c : Rgb) (s : State) : (s.returnColor c).bufLen = s.bufLen := rfl
@[simp] theorem State.returnColor_draws (c : Rgb) (s : State) : (s.returnColor c).draws = s.draws := rfl

@[simp] theorem resetCore_buf (s : State) : (resetCore s).buf = s.buf := rfl
@[simp] theorem resetCore_latch (s : State) : (resetCore s).latch = Latch.ofBits (Config.anyLatch s.draws) := rfl
@[simp] theorem resetCore_stepCtr (s : State) : (resetCore s).stepCtr = Config.anyStep s.draws := rfl
@[simp] theorem resetCore_status (s : State) : (resetCore s).status = Status.cleared := rfl
@[simp] theorem resetCore_result (s : State) : (resetCore s).result = resultWord (Config.anyU24 s.draws) := rfl
@[simp] theorem resetCore_port (s : State) : (resetCore s).port = none := rfl
@[simp] theorem resetCore_resetIn (s : State) : (resetCore s).resetIn = false := rfl
@[simp] theorem resetCore_bufLen (s : State) : (resetCore s).bufLen = s.bufLen := rfl
@[simp] theorem resetCore_draws (s : State) : (resetCore s).draws = s.draws + 1 := rfl

@[simp] theorem takeIllegal_buf (s : State) : (takeIllegal s).buf = s.buf := rfl
@[simp] theorem takeIllegal_latch (s : State) : (takeIllegal s).latch = s.latch := rfl
@[simp] theorem takeIllegal_stepCtr (s : State) : (takeIllegal s).stepCtr = s.stepCtr := rfl
@[simp] theorem takeIllegal_status (s : State) : (takeIllegal s).status = s.status.faulted .illegalCommand := rfl
@[simp] theorem takeIllegal_result (s : State) : (takeIllegal s).result = s.result := rfl
@[simp] theorem takeIllegal_port (s : State) : (takeIllegal s).port = s.port := rfl
@[simp] theorem takeIllegal_resetIn (s : State) : (takeIllegal s).resetIn = s.resetIn := rfl
@[simp] theorem takeIllegal_bufLen (s : State) : (takeIllegal s).bufLen = s.bufLen := rfl
@[simp] theorem takeIllegal_draws (s : State) : (takeIllegal s).draws = s.draws := rfl

@[simp] theorem applyReset_buf (s : State) : (applyReset s).buf = s.buf := rfl
@[simp] theorem applyReset_latch (s : State) : (applyReset s).latch = s.latch := rfl
@[simp] theorem applyReset_stepCtr (s : State) : (applyReset s).stepCtr = s.stepCtr := rfl
@[simp] theorem applyReset_status (s : State) : (applyReset s).status = s.status := rfl
@[simp] theorem applyReset_result (s : State) : (applyReset s).result = s.result := rfl
@[simp] theorem applyReset_port (s : State) : (applyReset s).port = s.port := rfl
@[simp] theorem applyReset_resetIn (s : State) : (applyReset s).resetIn = true := rfl
@[simp] theorem applyReset_bufLen (s : State) : (applyReset s).bufLen = s.bufLen := rfl
@[simp] theorem applyReset_draws (s : State) : (applyReset s).draws = s.draws := rfl

@[simp] theorem State.withFetchWord_buf (s : State) (nbits w : Nat) : (s.withFetchWord nbits w).buf = s.buf := rfl
@[simp] theorem State.withFetchWord_latch (s : State) (nbits w : Nat) : (s.withFetchWord nbits w).latch = s.latch := rfl
@[simp] theorem State.withFetchWord_stepCtr (s : State) (nbits w : Nat) : (s.withFetchWord nbits w).stepCtr = s.stepCtr := rfl
@[simp] theorem State.withFetchWord_status (s : State) (nbits w : Nat) : (s.withFetchWord nbits w).status = ⟨false, false, s.status.rvalid, 0, 0⟩ := rfl
@[simp] theorem State.withFetchWord_result (s : State) (nbits w : Nat) : (s.withFetchWord nbits w).result = s.result := rfl
@[simp] theorem State.withFetchWord_port (s : State) (nbits w : Nat) : (s.withFetchWord nbits w).port = some (tableWord nbits w) := rfl
@[simp] theorem State.withFetchWord_resetIn (s : State) (nbits w : Nat) : (s.withFetchWord nbits w).resetIn = false := rfl
@[simp] theorem State.withFetchWord_bufLen (s : State) (nbits w : Nat) : (s.withFetchWord nbits w).bufLen = s.bufLen := rfl
@[simp] theorem State.withFetchWord_draws (s : State) (nbits w : Nat) : (s.withFetchWord nbits w).draws = s.draws := rfl

@[simp] theorem Latch.load_op (op : Opcode) (si : Index) (sc : Triple) (ei : Index) (ec : Triple) : (Latch.load op si sc ei ec).op = op.bits := rfl
@[simp] theorem Latch.load_si (op : Opcode) (si : Index) (sc : Triple) (ei : Index) (ec : Triple) : (Latch.load op si sc ei ec).si = si := rfl
@[simp] theorem Latch.load_sc (op : Opcode) (si : Index) (sc : Triple) (ei : Index) (ec : Triple) : (Latch.load op si sc ei ec).sc = sc := rfl
@[simp] theorem Latch.load_ei (op : Opcode) (si : Index) (sc : Triple) (ei : Index) (ec : Triple) : (Latch.load op si sc ei ec).ei = ei := rfl
@[simp] theorem Latch.load_ec (op : Opcode) (si : Index) (sc : Triple) (ei : Index) (ec : Triple) : (Latch.load op si sc ei ec).ec = ec := rfl

@[simp] theorem State.launch_buf (n : Nat) (m : Memory) : (State.launch n m).buf = m := rfl
@[simp] theorem State.launch_latch (n : Nat) (m : Memory) : (State.launch n m).latch = State.reset.latch := rfl
@[simp] theorem State.launch_stepCtr (n : Nat) (m : Memory) : (State.launch n m).stepCtr = State.reset.stepCtr := rfl
@[simp] theorem State.launch_status (n : Nat) (m : Memory) : (State.launch n m).status = Status.cleared := rfl
@[simp] theorem State.launch_result (n : Nat) (m : Memory) : (State.launch n m).result = 0 := rfl
@[simp] theorem State.launch_port (n : Nat) (m : Memory) : (State.launch n m).port = none := rfl
@[simp] theorem State.launch_resetIn (n : Nat) (m : Memory) : (State.launch n m).resetIn = false := rfl
@[simp] theorem State.launch_bufLen (n : Nat) (m : Memory) : (State.launch n m).bufLen = n := rfl
@[simp] theorem State.launch_draws (n : Nat) (m : Memory) : (State.launch n m).draws = 0 := rfl

@[simp] theorem FaultCause.code_illegalCommand : FaultCause.illegalCommand.code = 1 := rfl
@[simp] theorem FaultCause.code_rangeFault : FaultCause.rangeFault.code = 2 := rfl
@[simp] theorem FaultCause.code_boundsFault (k : Nat) : (FaultCause.boundsFault k).code = 3 := rfl
@[simp] theorem FaultCause.fidx_illegalCommand : FaultCause.illegalCommand.fidx = 0 := rfl
@[simp] theorem FaultCause.fidx_rangeFault : FaultCause.rangeFault.fidx = 0 := rfl
@[simp] theorem FaultCause.fidx_boundsFault (k : Nat) :
    (FaultCause.boundsFault k).fidx = BitVec.ofNat 16 k := rfl
@[simp] theorem writeStatus_eq (v : BitVec 32) (s : State) : writeStatus v s = s := rfl
@[simp] theorem writeResult_eq (v : BitVec 32) (s : State) : writeResult v s = s := rfl
@[simp] theorem core_step : Sys2Proof.core.step = step := rfl

end Sys2Proof.Machine
end

