-- ==== Sys2Proof/Laws/Ops.lean ====
section
/-! SUPPORT. For each shared operation one lemma that says everything it can do; the proofs cite these
and unfold nothing. -/

namespace Sys2Proof.Machine

theorem writePixel_of_lt {idx : Nat} {s : State} (c : Rgb) (h : idx < s.bufLen) :
    writePixel idx c s = .ok (s.store idx c) := by
  simp [writePixel, h]

theorem writePixel_of_le {idx : Nat} {s : State} (c : Rgb) (h : s.bufLen ≤ idx) :
    writePixel idx c s = .error (.boundsFault idx) := by
  simp [writePixel, Nat.not_lt.mpr h]

theorem writePixel_cases (idx : Nat) (c : Rgb) (s : State) :
    (idx < s.bufLen ∧ writePixel idx c s = .ok (s.store idx c)) ∨
    (s.bufLen ≤ idx ∧ writePixel idx c s = .error (.boundsFault idx)) := by
  rcases Nat.lt_or_ge idx s.bufLen with h | h
  · exact .inl ⟨h, writePixel_of_lt c h⟩
  · exact .inr ⟨h, writePixel_of_le c h⟩

theorem inDomain_iff (saturation value : Byte) :
    inDomain saturation value = true ↔ saturation.toNat ≤ 15 ∧ value.toNat ≤ 34 := by
  rw [inDomain, Bool.and_eq_true, decide_eq_true_eq, decide_eq_true_eq, Config.maxSaturation,
    Config.maxValue]
  omega

theorem hsv2rgb_of_inDomain {saturation value : Byte} (hue : Byte)
    (h : inDomain saturation value = true) :
    hsv2rgb hue saturation value =
      some (hsv2rgbExact hue.toNat saturation.toNat value.toNat).toRgb := by
  simp [hsv2rgb, h]

theorem hsv2rgb_of_not_inDomain {saturation value : Byte} (hue : Byte)
    (h : inDomain saturation value = false) : hsv2rgb hue saturation value = none := by
  simp [hsv2rgb, h]

theorem convertColor_of_some {hue saturation value : Byte} {c : Rgb} (s : State)
    (h : hsv2rgb hue saturation value = some c) : convertColor hue saturation value s = (c, s) := by
  simp [convertColor, h]

theorem convertColor_of_none {hue saturation value : Byte} (s : State)
    (h : hsv2rgb hue saturation value = none) :
    convertColor hue saturation value s =
      (Triple.unpack24 (Config.anyU24 s.draws), s.nextDraw) := by
  simp [convertColor, h, State.drawU24]

/-- A conversion leaves the state as it is, or takes one draw. -/
theorem convertColor_cases (hue saturation value : Byte) (s : State) :
    (∃ c, hsv2rgb hue saturation value = some c ∧ convertColor hue saturation value s = (c, s)) ∨
    (hsv2rgb hue saturation value = none ∧
      convertColor hue saturation value s =
        (Triple.unpack24 (Config.anyU24 s.draws), s.nextDraw)) := by
  cases h : hsv2rgb hue saturation value with
  | some c => exact .inl ⟨c, rfl, convertColor_of_some s h⟩
  | none => exact .inr ⟨rfl, convertColor_of_none s h⟩

/-- The pixel of an iteration: the components as they are, their conversion, or one draw. -/
theorem fillPixel_cases (l : Latch) (i : Nat) (s : State) :
    (l.converts = false ∧ fillPixel l i s = (fillComponents l i, s)) ∨
    (l.converts = true ∧ ∃ c, hsv2rgb (fillComponents l i).c0 (fillComponents l i).c1
      (fillComponents l i).c2 = some c ∧ fillPixel l i s = (c, s)) ∨
    (l.converts = true ∧ hsv2rgb (fillComponents l i).c0 (fillComponents l i).c1
      (fillComponents l i).c2 = none ∧
      fillPixel l i s = (Triple.unpack24 (Config.anyU24 s.draws), s.nextDraw)) := by
  cases h : l.converts with
  | false => exact .inl ⟨rfl, by simp [fillPixel, h]⟩
  | true =>
    rcases convertColor_cases (fillComponents l i).c0 (fillComponents l i).c1
        (fillComponents l i).c2 s with ⟨c, hc, e⟩ | ⟨hc, e⟩
    · exact .inr (.inl ⟨rfl, c, hc, by simpa [fillPixel, h] using e⟩)
    · exact .inr (.inr ⟨rfl, hc, by simpa [fillPixel, h] using e⟩)

/-- A pixel of a fill leaves the state as it is, or takes one draw. -/
theorem fillPixel_state (l : Latch) (i : Nat) (s : State) :
    (fillPixel l i s).2 = s ∨ (fillPixel l i s).2 = s.nextDraw := by
  rcases fillPixel_cases l i s with ⟨-, h⟩ | ⟨-, _, -, h⟩ | ⟨-, -, h⟩ <;> simp [h]

@[simp] theorem fillPixel_bufLen (l : Latch) (i : Nat) (s : State) :
    (fillPixel l i s).2.bufLen = s.bufLen := by
  rcases fillPixel_state l i s with h | h <;> simp [h]

@[simp] theorem fillPixel_buf (l : Latch) (i : Nat) (s : State) :
    (fillPixel l i s).2.buf = s.buf := by
  rcases fillPixel_state l i s with h | h <;> simp [h]

/-- Iteration `i` stores its pixel at its index, or that index is out of the buffer. -/
theorem fillStore_cases (l : Latch) (i : Nat) (s : State) :
    (l.index i < s.bufLen ∧
      fillStore l i s = 
        .ok ((fillPixel l i s).2.store (l.index i) (fillPixel l i s).1)) ∨
    (s.bufLen ≤ l.index i ∧ fillStore l i s = .error (.boundsFault (l.index i))) := by
  rcases writePixel_cases (l.index i) (fillPixel l i s).1 (fillPixel l i s).2 with ⟨h, e⟩ | ⟨h, e⟩
  · exact .inl ⟨by simpa using h, by simpa [fillStore] using e⟩
  · exact .inr ⟨by simpa using h, by simpa [fillStore] using e⟩

theorem fillAdvance_cases (s : State) :
    ((s.stepCtr.toNat : Int) = s.latch.gap ∧
      fillAdvance s = s.endFill) ∨
    ((s.stepCtr.toNat : Int) ≠ s.latch.gap ∧ fillAdvance s = s.nextIteration) := by
  by_cases h : (s.stepCtr.toNat : Int) = s.latch.gap
  · exact .inl ⟨h, by simp [fillAdvance, h]⟩
  · exact .inr ⟨h, by simp [fillAdvance, h]⟩

/-- The fill step stores one element and advances or ends the fill, or takes the BoundsFault. -/
theorem fillStep_cases (s : State) :
    (s.latch.index s.stepCtr.toNat < s.bufLen ∧
      fillStep s = fillAdvance ((fillPixel s.latch s.stepCtr.toNat s).2.store
        (s.latch.index s.stepCtr.toNat) (fillPixel s.latch s.stepCtr.toNat s).1)) ∨
    (s.bufLen ≤ s.latch.index s.stepCtr.toNat ∧
      fillStep s = s.raise (.boundsFault (s.latch.index s.stepCtr.toNat))) := by
  rcases fillStore_cases s.latch s.stepCtr.toNat s with ⟨h, e⟩ | ⟨h, e⟩
  · exact .inl ⟨h, by simp [fillStep, e]⟩
  · exact .inr ⟨h, by simp [fillStep, e]⟩

/-- The components of iteration `i` are those the statements give its index. -/
theorem fillComponents_eq_gradientAt (l : Latch) (i : Nat) :
    fillComponents l i = gradientAt l.si l.sc l.ei l.ec (l.si.toNat + i) := by
  have h : l.gap = 0 ↔ l.si = l.ei := by
    rw [Latch.gap, ← BitVec.toNat_inj]
    omega
  simp only [fillComponents, h, gradientAt, Nat.add_sub_cancel_left]
  rfl

theorem acceptFill_cases (op : Opcode) (si : Index) (sc : Triple) (ei : Index) (ec : Triple)
    (s : State) :
    (ei.toNat < si.toNat ∧ acceptFill op si sc ei ec s = s.raise .rangeFault) ∨
    (si.toNat ≤ ei.toNat ∧
      acceptFill op si sc ei ec s = s.beginFill (Latch.load op si sc ei ec)) := by
  rcases Nat.lt_or_ge ei.toNat si.toNat with h | h
  · exact .inl ⟨h, by simp [acceptFill, h]⟩
  · exact .inr ⟨h, by simp [acceptFill, Nat.not_lt.mpr h]⟩

/-- The acceptance of any command is a next state, one of these five. -/
theorem exec_cases (i : Instr) (s : State) :
    (∃ h sat v, i = .convert h sat v ∧ exec i s =
      .next ((convertColor h sat v s).2.returnColor (convertColor h sat v s).1)) ∨
    (∃ k c, i = .wrpix k c ∧ k.toNat < s.bufLen ∧
      exec i s = .next (s.store k.toNat c)) ∨
    (∃ k c, i = .wrpix k c ∧ s.bufLen ≤ k.toNat ∧
      exec i s = .next (s.raise (.boundsFault k.toNat))) ∨
    (∃ si sc ei ec, i = .fillhsv si sc ei ec ∧
      exec i s = .next (acceptFill .fillhsv si sc ei ec s)) ∨
    (∃ si sc ei ec, i = .fillrgb si sc ei ec ∧
      exec i s = .next (acceptFill .fillrgb si sc ei ec s)) := by
  cases i with
  | convert h sat v => exact .inl ⟨h, sat, v, rfl, rfl⟩
  | wrpix k c =>
    rcases writePixel_cases k.toNat c s with ⟨h, e⟩ | ⟨h, e⟩
    · exact .inr (.inl ⟨k, c, rfl, h, by simp [exec, execWrpix, e]⟩)
    · exact .inr (.inr (.inl ⟨k, c, rfl, h, by simp [exec, execWrpix, e]⟩))
  | fillhsv si sc ei ec => exact .inr (.inr (.inr (.inl ⟨si, sc, ei, ec, rfl, rfl⟩)))
  | fillrgb si sc ei ec => exact .inr (.inr (.inr (.inr ⟨si, sc, ei, ec, rfl, rfl⟩)))

/-- Everything a step that answers a next state can be: the reset, a fill step, the resting of an
idle core, the acceptance of a command, or of an illegal word (70 R137). -/
theorem step_next_cases {s t : State} (h : step s = .next t) :
    (s.resetIn = true ∧ t = resetCore s) ∨
    (s.filling ∧ t = fillStep s) ∨
    (s.ready ∧ s.port = none ∧ t = s) ∨
    (s.ready ∧ ∃ w i, s.port = some w ∧ decode w = .ok i ∧
      exec i s.consume = .next t) ∨
    (s.ready ∧ ∃ w e, s.port = some w ∧ decode w = .error e ∧
      t = takeIllegal s.consume) := by
  unfold step at h
  cases hr : s.resetIn with
  | true => exact .inl ⟨rfl, by simpa [hr] using h.symm⟩
  | false =>
    cases hf : s.status.fault with
    | true => simp [hr, hf] at h
    | false =>
      cases hb : s.status.busy with
      | true => exact .inr (.inl ⟨⟨hr, hf, hb⟩, by simpa [hr, hf, hb] using h.symm⟩)
      | false =>
        have hs : s.ready := ⟨hr, hb, hf⟩
        cases hp : s.port with
        | none =>
          exact .inr (.inr (.inl ⟨hs, rfl, by simpa [hr, hf, hb, hp, fetch] using h.symm⟩))
        | some w =>
          cases hd : decode w with
          | ok i =>
            exact .inr (.inr (.inr (.inl ⟨hs, w, i, rfl, hd, by
              simpa [hr, hf, hb, hp, hd, fetch] using h⟩)))
          | error e =>
            exact .inr (.inr (.inr (.inr ⟨hs, w, e, rfl, hd, by
              simpa [hr, hf, hb, hp, hd, fetch] using h.symm⟩)))

@[simp] theorem runCore_zero (s : State) : runCore 0 s = .next s := rfl

theorem runCore_succ_of_next {s t : State} (n : Nat) (h : step s = .next t) :
    runCore (n + 1) s = runCore n t := by
  simp only [runCore, Host.Core.run, core_step, h]
  rfl

theorem runCore_succ_of_fault {s : State} {r : Fault} (n : Nat) (h : step s = .fault r) :
    runCore (n + 1) s = .fault r := by
  simp only [runCore, Host.Core.run, core_step, h]
  rfl

/-- A host's store changes one element of the buffer, or is refused by name. -/
theorem hostStore_cases (k : Nat) (c : Rgb) (s : State) :
    (s.bufLen ≤ k ∧ hostStore k c s = .refused (.noSuchElement k)) ∨
    (k < s.bufLen ∧ inFill k s = true ∧ hostStore k c s = .refused (.contestedElement k)) ∨
    (k < s.bufLen ∧ inFill k s = false ∧
      hostStore k c s = .next (s.store k c)) := by
  rcases Nat.lt_or_ge k s.bufLen with h | h
  · cases hf : inFill k s with
    | true => exact .inr (.inl ⟨h, rfl, by simp [hostStore, hf, Nat.not_le.mpr h]⟩)
    | false => exact .inr (.inr ⟨h, rfl, by simp [hostStore, hf, Nat.not_le.mpr h]⟩)
  · exact .inl ⟨h, by simp [hostStore, h]⟩

theorem offer_cases (w : CommandWord) (s : State) :
    (s.port = none ∧ offer w s = { s with port := some w }) ∨
    (∃ v, s.port = some v ∧ offer w s = s) := by
  cases h : s.port with
  | none => exact .inl ⟨rfl, by simp [offer, h]⟩
  | some v => exact .inr ⟨v, rfl, by simp [offer, h]⟩

end Sys2Proof.Machine
end

