-- ==== Sys2Proof/Laws/PerInstr.lean ====
section
/-! SUPPORT. Statements about every instruction as syntax, one lemma per constructor. -/

namespace Sys2Proof.Laws

/-- The fields of the command make a legal word (30_encoding.md R50, R51). -/
def EncodesLegally.Statement (i : Instr) : Prop :=
  i.formC.legal = true

theorem EncodesLegally.convert (h s v : Byte) : EncodesLegally.Statement (.convert h s v) := by
  simp [EncodesLegally.Statement, Instr.formC, FormC.legal, FormC.opDefined, FormC.rsvZero,
    FormC.startIndexUsed, FormC.endUsed]

theorem EncodesLegally.wrpix (k : Index) (c : Rgb) : EncodesLegally.Statement (.wrpix k c) := by
  simp [EncodesLegally.Statement, Instr.formC, FormC.legal, FormC.opDefined, FormC.rsvZero,
    FormC.startIndexUsed, FormC.endUsed]

theorem EncodesLegally.fillhsv (si : Index) (sc : Hsv) (ei : Index) (ec : Hsv) :
    EncodesLegally.Statement (.fillhsv si sc ei ec) := by
  simp [EncodesLegally.Statement, Instr.formC, FormC.legal, FormC.opDefined, FormC.rsvZero,
    FormC.startIndexUsed, FormC.endUsed]

theorem EncodesLegally.fillrgb (si : Index) (sc : Rgb) (ei : Index) (ec : Rgb) :
    EncodesLegally.Statement (.fillrgb si sc ei ec) := by
  simp [EncodesLegally.Statement, Instr.formC, FormC.legal, FormC.opDefined, FormC.rsvZero,
    FormC.startIndexUsed, FormC.endUsed]

end Sys2Proof.Laws
end

