-- ==== Sys2Proof/Tests/Slice0.lean ====
section
/-! SUPPORT. The model's own tests, expected values from spec/95_test_vectors.md (the vector is named in
each comment), and for every statement with hypotheses a concrete state and operands that meet them. -/

namespace Sys2Proof.Tests

open Sys2Proof Sys2Proof.Machine

/-! ### WellFormed refuses an ill-formed term of each kind (30_encoding.md R49, R50) -/

theorem test_legal_reserved_opcode_refused :
    FormC.legal ⟨0, 0, ⟨0, 0, 0⟩, 0, 0, ⟨0, 0, 0⟩⟩ = false ∧
    FormC.legal ⟨5, 0, ⟨0, 0, 0⟩, 0, 0, ⟨0, 0, 0⟩⟩ = false := by decide

theorem test_legal_rsv_refused :
    FormC.legal ⟨3, 0, ⟨0, 0, 0⟩, 1, 0, ⟨0, 0, 0⟩⟩ = false := by decide

theorem test_legal_convert_index_refused :
    FormC.legal ⟨1, 1, ⟨0, 0, 0⟩, 0, 0, ⟨0, 0, 0⟩⟩ = false := by decide

theorem test_legal_unused_end_refused :
    FormC.legal ⟨1, 0, ⟨0, 0, 0⟩, 0, 1, ⟨0, 0, 0⟩⟩ = false ∧
    FormC.legal ⟨2, 7, ⟨1, 2, 3⟩, 0, 0, ⟨0, 0, 1⟩⟩ = false := by decide

theorem test_legal_accepts : FormC.legal ⟨2, 7, ⟨1, 2, 3⟩, 0, 0, ⟨0, 0, 0⟩⟩ = true := by decide

theorem test_instr_wellFormed_whatever_operands :
    (Instr.convert 0 16 255).wellFormed = true ∧
    (Instr.wrpix 65535 ⟨255, 255, 255⟩).wellFormed = true ∧
    (Instr.fillhsv 9 ⟨0, 255, 255⟩ 8 ⟨0, 0, 0⟩).wellFormed = true ∧
    (Instr.fillrgb 9 ⟨0, 0, 0⟩ 8 ⟨0, 0, 0⟩).wellFormed = true := by decide

/-! ### Decoding words written out from 30_encoding.md R46, R47 -/

/-- OP 00000001, SI 0, hue 5, saturation 7, value 12, low half 0 (vector V36). -/
theorem test_decode_convert :
    decode 0b000000010000000000000000000001010000011100001100000000000000000000000000000000000000000000000000
      = .ok (.convert 5 7 12) := by decide

/-- Vector E2. -/
theorem test_decode_wrpix :
    decode 0x020002FF0000000000000000 = .ok (.wrpix 2 ⟨255, 0, 0⟩) := by decide

/-- Vector E3. -/
theorem test_decode_fillhsv :
    decode 0x030001000F11000007600F11 = .ok (.fillhsv 1 ⟨0, 15, 17⟩ 7 ⟨96, 15, 17⟩) := by decide

/-- Vectors E4 and E12. -/
theorem test_decode_fillrgb :
    decode 0x040005FF000A000007000014 = .ok (.fillrgb 5 ⟨255, 0, 10⟩ 7 ⟨0, 0, 20⟩) ∧
    decode 0x040005010203000002040506 = .ok (.fillrgb 5 ⟨1, 2, 3⟩ 2 ⟨4, 5, 6⟩) := by decide

/-- Vectors E5 to E7. -/
theorem test_decode_reserved_opcodes :
    decode 0x000000000000000000000000 = .error .reservedOpcode ∧
    decode 0x050000010203000000000000 = .error .reservedOpcode ∧
    decode 0xFF0000000000000000000000 = .error .reservedOpcode := by decide

/-- Vectors E8 to E11. -/
theorem test_decode_nonzero_fields :
    decode 0x010001000F11000000000000 = .error .unusedFieldNotZero ∧
    decode 0x010000000F11010000000000 = .error .reservedFieldNotZero ∧
    decode 0x020002FF0000000001000000 = .error .unusedFieldNotZero ∧
    decode 0x030000000000010005000000 = .error .reservedFieldNotZero := by decide

/-- The words of E1 to E4 are what the encoder writes. -/
theorem test_encode :
    encode (.convert 0 15 17) = 0x010000000F11000000000000 ∧
    encode (.wrpix 2 ⟨255, 0, 0⟩) = 0x020002FF0000000000000000 ∧
    encode (.fillhsv 1 ⟨0, 15, 17⟩ 7 ⟨96, 15, 17⟩) = 0x030001000F11000007600F11 ∧
    encode (.fillrgb 5 ⟨255, 0, 10⟩ 7 ⟨0, 0, 20⟩) = 0x040005FF000A000007000014 := by decide

/-- Each row's "match" of spec/opcode_table.json, as the host numbers its bits. -/
theorem test_table_rows :
    decodeTableWord 96 0x010000000000000000000000 = some (.convert 0 0 0) ∧
    decodeTableWord 96 0x020000000000000000000000 = some (.wrpix 0 ⟨0, 0, 0⟩) ∧
    decodeTableWord 96 0x030000000000000000000000 = some (.fillhsv 0 ⟨0, 0, 0⟩ 0 ⟨0, 0, 0⟩) ∧
    decodeTableWord 96 0x040000000000000000000000 = some (.fillrgb 0 ⟨0, 0, 0⟩ 0 ⟨0, 0, 0⟩) := by
  decide

/-- The examples of 30_encoding.md R56 and R57. -/
theorem test_text :
    (Instr.convert 0 15 17).text = "CONVERT (0, 15, 17)" ∧
    (Instr.fillrgb 0 ⟨0, 0, 0⟩ 4 ⟨255, 255, 255⟩).text =
      "FILLRGB 0, (0, 0, 0), 4, (255, 255, 255)" ∧
    (Instr.solidHsv 2 5 ⟨64, 15, 17⟩).text = "FILLHSV 2, (64, 15, 17), 5, (64, 15, 17)" := by decide

/-! ### One step on a small state -/

/-- A core after reset with an 8-element buffer and a word at its port. -/
def offered (w : CommandWord) : State :=
  offer w (State.launch 8 [])

/-- A core in a fill of an 8-element buffer, at iteration `i`. -/
def inFillAt (op : BitVec 8) (si : Index) (sc : Triple) (ei : Index) (ec : Triple) (i : BitVec 16) :
    State :=
  { State.launch 8 [] with
    latch := ⟨op, si, sc, ei, ec⟩, stepCtr := i, status := ⟨true, false, false, 0, 0⟩ }

/-- A core in a FILLHSV step, RVALID 1 from an earlier CONVERT, another CONVERT waiting at its port. -/
def waitingConvert : State :=
  { inFillAt 3 0 ⟨0, 15, 17⟩ 2 ⟨32, 15, 17⟩ 1 with
    status := ⟨true, false, true, 0, 0⟩, result := 0x00819646, port := some 0x010000000F11000000000000 }

/-- A faulted core: BoundsFault at index 8 (the end of vector F1). -/
def faulted : State :=
  (State.launch 8 []).raise (.boundsFault 8)

/-- A check of the state a step answers; false where it answers none. -/
def after (s : State) (p : State → Bool) : Bool :=
  match step s with
  | .next t => p t
  | .fault _ => false
  | .refused _ => false

/-- Vector V31: odd sextant, the `+ 1` of the falling channel, RESULT and STATUS. -/
theorem test_convert_result :
    after (offered 0x01000014080A000000000000)
      (fun t => readResult t == some 0x00819646 && readStatus t == 0x00000004) = true := by decide

/-- 42_gradient.md R102: the fill step converts its pixel and leaves RESULT and the waiting CONVERT. -/
theorem test_fill_keeps_result :
    after waitingConvert
      (fun t => readResult t == some 0x00819646 && t.buf.read 1 == some ⟨255, 255, 0⟩ &&
        t.port == some 0x010000000F11000000000000) = true := by decide

/-- Vector V40: sextant 3, and BUF and the port after it. -/
theorem test_convert_keeps_buffer :
    after (offered 0x0100003C0C05000000000000)
      (fun t => readResult t == some 0x000F1D4B && t.buf == [] && t.port == none) = true := by decide

/-- Vector W3: the last legal index. -/
theorem test_wrpix_last_index :
    after (offered 0x020007010203000000000000)
      (fun t => t.buf == [(7, ⟨1, 2, 3⟩)] && readStatus t == 0) = true := by decide

/-- Vector W4: the first refused index. -/
theorem test_wrpix_refused_index :
    after (offered 0x020008010203000000000000)
      (fun t => t.buf == [] && readStatus t == 0x00080302) = true := by decide

/-- Acceptance of vector G4: the latches, STEP, BUSY, and no store (42_gradient.md R89). -/
theorem test_fillhsv_acceptance :
    after (offered 0x030001000F11000007600F11)
      (fun t => t.latch == ⟨3, 1, ⟨0, 15, 17⟩, 7, ⟨96, 15, 17⟩⟩ && t.stepCtr == 0 &&
        readStatus t == 1 && t.buf == []) = true := by decide

/-- Vector G6, iteration 1: hue 73 of the long way round is converted to (143, 0, 255). -/
theorem test_fillhsv_step :
    after (inFillAt 3 0 ⟨90, 15, 17⟩ 5 ⟨5, 15, 17⟩ 1)
      (fun t => t.buf.read 1 == some ⟨143, 0, 255⟩ && t.stepCtr == 2 && t.status.busy) = true := by
  decide

/-- Vector G2, iteration 1: a falling component truncates toward zero, 192 and not 191. -/
theorem test_fillrgb_step :
    after (inFillAt 4 0 ⟨255, 255, 255⟩ 4 ⟨0, 0, 0⟩ 1)
      (fun t => t.buf == [(1, ⟨192, 192, 192⟩)] && t.stepCtr == 2) = true := by decide

/-- Vector F7: RangeFault wins over the out-of-range indices, FIDX 0. -/
theorem test_fillrgb_reversed :
    after (offered 0x040009000000000008000000)
      (fun t => readStatus t == 0x00000202 && t.buf == []) = true := by decide

/-- Vector F1, its faulting step. -/
theorem test_fill_step_bounds_fault :
    after (inFillAt 4 6 ⟨10, 20, 30⟩ 9 ⟨40, 50, 60⟩ 2)
      (fun t => readStatus t == 0x00080302 && t.buf == [] && t.stepCtr == 2) = true := by decide

/-- Vector F6: IllegalCommand wins over RangeFault. -/
theorem test_illegal_word :
    after (offered 0x030009000000010005000000)
      (fun t => readStatus t == 0x00000102 && t.port == none) = true := by decide

/-- 70 R125: reset abandons the fill, drops the waiting word and keeps the buffer. -/
theorem test_reset_in_a_fill :
    after (applyReset (offer 1 (inFillAt 4 0 ⟨0, 0, 0⟩ 4 ⟨255, 255, 255⟩ 2)))
      (fun t => readStatus t == 0 && t.port == none && t.buf == []) = true := by decide

/-- Vectors I11, I14 and I17. -/
theorem test_interp :
    interp 1 0 1 2 = 1 ∧ interp 0 255 257 65535 = 1 ∧ interp 255 0 65534 65535 = 1 := by decide

/-- After reset the core runs the word placed for it as its first instruction. -/
theorem test_first_instruction_after_reset :
    after (State.reset.withFetchWord 96 0x020007010203000000000000)
      (fun t => t.buf == [(7, ⟨1, 2, 3⟩)]) = true := by decide

/-! ### The hypotheses of the statements can be met -/

theorem ready_offered (w : CommandWord) : (offered w).ready := ⟨rfl, rfl, rfl⟩

theorem ready_launch : (State.launch 8 []).ready := ⟨rfl, rfl, rfl⟩

theorem filling_inFillAt (op : BitVec 8) (si : Index) (sc : Triple) (ei : Index) (ec : Triple)
    (i : BitVec 16) : (inFillAt op si sc ei ec i).filling := ⟨rfl, rfl, rfl⟩

theorem witness_EncodeAndDecodeAreInverse :
    (Instr.convert 255 255 255).wellFormed = true ∧
    decode 0x010000FFFFFF000000000000 = .ok (.convert 255 255 255) := by decide

theorem witness_DecoderAgreesWithFieldsAndTable :
    decode 0x050000010203000000000000 = .error .reservedOpcode ∧
    decode 0x02FFFFFFFFFF000000000000 = .ok (.wrpix 65535 ⟨255, 255, 255⟩) ∧
    (opcodeTable.all fun r => r.selects r.pattern) = true := by decide

/-- Each way of being illegal at its boundary, and a legal neighbour. -/
theorem witness_IllegalWordRaisesIllegalCommand :
    (offered 0x000000000000000000000001).ready ∧
    (offered 0x050000010203000000000000).port = some 0x050000010203000000000000 ∧
    (0x000000000000000000000001 : CommandWord).extractLsb' 88 8 = 0 ∧
    5 ≤ ((0x050000010203000000000000 : CommandWord).extractLsb' 88 8).toNat ∧
    (0x030000000000010005000000 : CommandWord).extractLsb' 40 8 ≠ 0 ∧
    (0x010001000F11000000000000 : CommandWord).extractLsb' 72 16 ≠ 0 ∧
    (0x010000000F11000000000001 : CommandWord).extractLsb' 0 48 ≠ 0 ∧
    (0x020002FF0000000000000001 : CommandWord).extractLsb' 0 48 ≠ 0 ∧
    ¬ 5 ≤ ((0x040000000000000000000001 : CommandWord).extractLsb' 88 8).toNat :=
  ⟨ready_offered _, rfl, by decide, by decide, by decide, by decide, by decide, by decide, by decide⟩

theorem witness_StepRunsTheDecodedCommand :
    (offered 0x020002FF0000000000000000).ready ∧
    (offered 0x020002FF0000000000000000).port = some 0x020002FF0000000000000000 ∧
    decode 0x020002FF0000000000000000 = .ok (.wrpix 2 ⟨255, 0, 0⟩) ∧
    (Instr.wrpix 2 ⟨255, 0, 0⟩).wellFormed = true :=
  ⟨ready_offered _, rfl, by decide, rfl⟩

theorem witness_StepOtherThanAcceptance :
    (applyReset faulted).resetIn = true ∧
    (faulted.resetIn = false ∧ faulted.status.fault = true) ∧
    (inFillAt 4 0 ⟨0, 0, 0⟩ 4 ⟨255, 255, 255⟩ 4).filling ∧
    ((State.launch 8 []).ready ∧ (State.launch 8 []).port = none) :=
  ⟨rfl, ⟨rfl, rfl⟩, filling_inFillAt _ _ _ _ _ _, ready_launch, rfl⟩

theorem witness_FetchWordIsRunNext :
    decodeTableWord 96 0x04FFFF00000000FFFFFFFFFF =
      some (.fillrgb 65535 ⟨0, 0, 0⟩ 65535 ⟨255, 255, 255⟩) := by decide

theorem witness_WaitingWordIsKeptThenConsumed :
    (offer 1 (inFillAt 4 0 ⟨0, 0, 0⟩ 4 ⟨255, 255, 255⟩ 4)).filling ∧
    (offered 1).ready ∧ (offered 1).port = some 1 :=
  ⟨⟨rfl, rfl, rfl⟩, ready_offered _, rfl⟩

theorem witness_FaultedCoreRunsNothing :
    faulted.resetIn = false ∧ faulted.status.fault = true := by decide

theorem witness_OneStepProgramsEndNormally :
    (State.launch 8 []).ready ∧ (State.launch 8 []).port = none ∧
    (7 : Index).toNat < (State.launch 8 []).bufLen :=
  ⟨ready_launch, rfl, by decide⟩

/-- A word that does not decode, a reversed fill, a fill of equal indices, a step at the last element
and one at BUF_LEN. -/
theorem witness_FaultPriority :
    ((offered 0x030009000000010005000000).ready ∧
      decode 0x030009000000010005000000 = .error .reservedFieldNotZero) ∧
    ((offered 0x040009000000000008000000).ready ∧
      decode 0x040009000000000008000000 = .ok (.fillrgb 9 ⟨0, 0, 0⟩ 8 ⟨0, 0, 0⟩) ∧
      (8 : Index).toNat < (9 : Index).toNat) ∧
    (decode 0x030003000F11000003300F11 = .ok (.fillhsv 3 ⟨0, 15, 17⟩ 3 ⟨48, 15, 17⟩) ∧
      (3 : Index).toNat ≤ (3 : Index).toNat) ∧
    ((inFillAt 4 6 ⟨10, 20, 30⟩ 9 ⟨40, 50, 60⟩ 1).filling ∧
      (inFillAt 4 6 ⟨10, 20, 30⟩ 9 ⟨40, 50, 60⟩ 2).filling) :=
  ⟨⟨ready_offered _, by decide⟩, ⟨ready_offered _, by decide, by decide⟩, ⟨by decide, by decide⟩,
    filling_inFillAt _ _ _ _ _ _, filling_inFillAt _ _ _ _ _ _⟩

/-- A faulted core, and one with RVALID set, in which reset is applied. -/
theorem witness_OnlyResetClearsFaultAndRvalid :
    ((applyReset faulted).status.fault = true ∧
      step (applyReset faulted) = .next (resetCore (applyReset faulted))) ∧
    ((applyReset { State.reset with status := ⟨false, false, true, 0, 0⟩ }).status.rvalid = true ∧
      (resetCore (applyReset { State.reset with status := ⟨false, false, true, 0, 0⟩ })).status.rvalid
        = false) :=
  ⟨⟨rfl, rfl⟩, rfl, rfl⟩

theorem witness_ResetStepClearsStatusAndKeepsBuffer :
    (applyReset (inFillAt 4 0 ⟨0, 0, 0⟩ 4 ⟨255, 255, 255⟩ 2)).resetIn = true := rfl

/-- The acceptance of a CONVERT sets RVALID; a fill step runs while a CONVERT waits at the port and
RVALID is 1 (70 R129); a core that can accept each fill runs on. -/
theorem witness_OnlyConvertWritesResult :
    (∃ t, step (offered 0x010000000F11000000000000) = .next t ∧
      t.status.rvalid ≠ (offered 0x010000000F11000000000000).status.rvalid) ∧
    (∃ t, step waitingConvert = .next t ∧ waitingConvert.filling ∧ t.port ≠ none) ∧
    ((offered (encode (.fillhsv 6 ⟨0, 17, 17⟩ 7 ⟨32, 15, 17⟩))).ready ∧
      ∃ t, runCore 3 (offered (encode (.fillhsv 6 ⟨0, 17, 17⟩ 7 ⟨32, 15, 17⟩))) = .next t) ∧
    ((offered (encode (.fillrgb 6 ⟨0, 15, 17⟩ 7 ⟨32, 15, 17⟩))).ready ∧
      ∃ t, runCore 3 (offered (encode (.fillrgb 6 ⟨0, 15, 17⟩ 7 ⟨32, 15, 17⟩))) = .next t) :=
  ⟨⟨_, rfl, by decide⟩, ⟨_, rfl, ⟨rfl, rfl, rfl⟩, by decide⟩, ⟨ready_offered _, _, rfl⟩,
    ready_offered _, _, rfl⟩

theorem witness_ResultIsReadableAfterConvert :
    State.reset.status.rvalid = false ∧
    (offered 0x010000000F11000000000000).ready ∧
    (offered 0x010000000F11000000000000).port = some 0x010000000F11000000000000 ∧
    decode 0x010000000F11000000000000 = .ok (.convert 0 15 17) ∧
    hsv2rgb 0 15 17 = some ⟨255, 0, 0⟩ :=
  ⟨rfl, ready_offered _, rfl, by decide, by decide⟩

theorem witness_ConvertReturnsTheColor :
    (15 : Byte).toNat ≤ 15 ∧ (34 : Byte).toNat ≤ 34 := by decide

theorem witness_ConvertOutsideDomainDraws :
    (15 < (16 : Byte).toNat) ∧ (34 < (35 : Byte).toNat) := by decide

theorem witness_ConverterComputesTheChannels :
    1 ≤ (15 : Byte).toNat ∧ (15 : Byte).toNat ≤ 15 ∧ 1 ≤ (33 : Byte).toNat ∧ (33 : Byte).toNat ≤ 33 := by
  decide

/-- Bytes at the top of the domain; the inner premises at value 17 and saturation 15. -/
theorem witness_ConverterIntermediateRanges :
    (0 : Int) ≤ 255 ∧ (255 : Int) ≤ 255 ∧ (0 : Int) ≤ 15 ∧ (15 : Int) ≤ 15 ∧ (0 : Int) ≤ 17 ∧
    (17 : Int) ≤ 34 ∧ 1 ≤ mirroredValue 17 ∧ mirroredValue 34 = 0 := by decide

theorem witness_ChannelsNeverClip :
    (15 : Byte).toNat ≤ 15 ∧ (17 : Byte).toNat ≤ 34 := by decide

theorem witness_ValueMirroringLaw :
    (18 ≤ (18 : Byte).toNat ∧ (18 : Byte).toNat ≤ 34) ∧
    (18 ≤ (34 : Byte).toNat ∧ (34 : Byte).toNat ≤ 34) := by decide

theorem witness_GrayscaleLaw : (34 : Byte).toNat ≤ 34 := by decide

theorem witness_BlackLaw : (15 : Byte).toNat ≤ 15 := by decide

theorem witness_NoClippingAtSextantStarts : (80 : Byte).toNat % 16 = 0 := by decide

theorem witness_HueContinuityBoundIsSixteen : 95 ≤ 95 ∧ 15 ≤ 15 ∧ 34 ≤ 34 := by decide

theorem witness_FallingChannelIsOneDarker :
    ((0 : Int) ≤ 1 ∧ (1 : Int) ≤ 15 ∧ (0 : Int) < 1) ∧ ((0 : Int) ≤ 0 ∧ (0 : Int) ≤ 15) := by decide

theorem witness_WritePixelChecksEveryStore :
    7 ≤ 65535 ∧ 7 < (State.launch 8 []).bufLen ∧ 65535 ≤ 65535 ∧ (State.launch 8 []).bufLen ≤ 8 := by
  decide

theorem witness_WrpixStoresOneElement :
    (7 : Index).toNat < (State.launch 8 []).bufLen := by decide

theorem witness_WrpixOutOfBoundsFaults :
    (State.launch 8 []).bufLen ≤ (8 : Index).toNat := by decide

theorem witness_InterpolationLaws :
    1 ≤ 65535 ∧ 65535 ≤ 65535 ∧ 65534 ≤ 65535 ∧ (0 : Byte).toNat ≤ (255 : Byte).toNat := by decide

theorem witness_InterpolationIsExact : 1 ≤ 65535 ∧ 65535 ≤ 65535 := by decide

theorem witness_FillIsAccepted : (3 : Index).toNat ≤ (3 : Index).toNat := by decide

theorem witness_ReversedFillRaisesRangeFault : (8 : Index).toNat < (9 : Index).toNat := by decide

/-- A step that is not the last, and the last one. -/
theorem witness_FillrgbStepStoresTheComponents :
    ((inFillAt 4 5 ⟨255, 0, 10⟩ 7 ⟨0, 0, 20⟩ 1).filling ∧
      (inFillAt 4 5 ⟨255, 0, 10⟩ 7 ⟨0, 0, 20⟩ 1).latch.op = 4 ∧
      (5 : Index).toNat + (1 : BitVec 16).toNat < 8 ∧
      (5 : Index).toNat + (1 : BitVec 16).toNat ≠ (7 : Index).toNat) ∧
    ((5 : Index).toNat + (2 : BitVec 16).toNat < 8 ∧
      (5 : Index).toNat + (2 : BitVec 16).toNat = (7 : Index).toNat) :=
  ⟨⟨filling_inFillAt _ _ _ _ _ _, rfl, by decide, by decide⟩, by decide, by decide⟩

/-- Vector G13: a step inside the domain and one outside it. -/
theorem witness_FillhsvStepStoresTheConversion :
    ((inFillAt 3 0 ⟨0, 15, 17⟩ 2 ⟨0, 17, 17⟩ 1).filling ∧
      (inFillAt 3 0 ⟨0, 15, 17⟩ 2 ⟨0, 17, 17⟩ 1).latch.op = 3 ∧
      (0 : Index).toNat + (1 : BitVec 16).toNat < 8) ∧
    (hsv2rgb 0 (gradientAt 0 ⟨0, 15, 17⟩ 2 ⟨0, 17, 17⟩ 0).c1 17 = some ⟨255, 0, 0⟩ ∧
      hsv2rgb 0 (gradientAt 0 ⟨0, 15, 17⟩ 2 ⟨0, 17, 17⟩ 1).c1 17 = none) :=
  ⟨⟨filling_inFillAt _ _ _ _ _ _, rfl, by decide⟩, by decide, by decide⟩

theorem witness_FillStepOutOfBoundsFaults :
    (inFillAt 4 6 ⟨10, 20, 30⟩ 9 ⟨40, 50, 60⟩ 2).filling ∧
    (inFillAt 4 6 ⟨10, 20, 30⟩ 9 ⟨40, 50, 60⟩ 2).bufLen ≤ (6 : Index).toNat + (2 : BitVec 16).toNat ∧
    (6 : Index).toNat + (2 : BitVec 16).toNat ≤ 65535 :=
  ⟨filling_inFillAt _ _ _ _ _ _, by decide, by decide⟩

theorem witness_EqualIndicesStoreTheStartColor :
    (State.launch 8 []).ready ∧ (7 : Index).toNat < (State.launch 8 []).bufLen :=
  ⟨ready_launch, by decide⟩

theorem witness_StepsAgreeWithWholeCommandForm :
    (inFillAt 3 0 ⟨0, 15, 17⟩ 7 ⟨0, 17, 17⟩ 0).filling ∧
    (inFillAt 3 0 ⟨0, 15, 17⟩ 7 ⟨0, 17, 17⟩ 0).stepCtr = 0 ∧
    (0 : Index).toNat ≤ (7 : Index).toNat ∧
    (7 : Index).toNat < (inFillAt 3 0 ⟨0, 15, 17⟩ 7 ⟨0, 17, 17⟩ 0).bufLen :=
  ⟨filling_inFillAt _ _ _ _ _ _, rfl, by decide, by decide⟩

/-- Vector G3. -/
theorem witness_FillrgbFillsTheRange :
    (offered (encode (.fillrgb 5 ⟨255, 0, 10⟩ 7 ⟨0, 0, 20⟩))).ready ∧
    (offered (encode (.fillrgb 5 ⟨255, 0, 10⟩ 7 ⟨0, 0, 20⟩))).port =
      some (encode (.fillrgb 5 ⟨255, 0, 10⟩ 7 ⟨0, 0, 20⟩)) ∧
    (5 : Index).toNat ≤ (7 : Index).toNat ∧
    (7 : Index).toNat < (offered (encode (.fillrgb 5 ⟨255, 0, 10⟩ 7 ⟨0, 0, 20⟩))).bufLen :=
  ⟨ready_offered _, rfl, by decide, by decide⟩

/-- FILLRGB: vector G3 at n = 2, the gap. FILLHSV: vector G13, an end colour outside the domain, at n = 1,
whose one new element is converted, and at n = 2, the gap, whose second new element is unspecified. -/
theorem witness_RunningFillHasWrittenAPrefix :
    ((offered (encode (.fillrgb 5 ⟨255, 0, 10⟩ 7 ⟨0, 0, 20⟩))).ready ∧
      (offered (encode (.fillrgb 5 ⟨255, 0, 10⟩ 7 ⟨0, 0, 20⟩))).port =
        some (encode (.fillrgb 5 ⟨255, 0, 10⟩ 7 ⟨0, 0, 20⟩)) ∧
      (5 : Index).toNat + 2 ≤ (7 : Index).toNat ∧ (7 : Index).toNat < 8) ∧
    ((offered (encode (.fillhsv 0 ⟨0, 15, 17⟩ 2 ⟨0, 17, 17⟩))).ready ∧
      (offered (encode (.fillhsv 0 ⟨0, 15, 17⟩ 2 ⟨0, 17, 17⟩))).port =
        some (encode (.fillhsv 0 ⟨0, 15, 17⟩ 2 ⟨0, 17, 17⟩)) ∧
      (0 : Index).toNat + 2 ≤ (2 : Index).toNat ∧ (2 : Index).toNat < 8) ∧
    (IsFillhsvColor 0 ⟨0, 15, 17⟩ 2 ⟨0, 17, 17⟩ 0 ⟨255, 0, 0⟩ ∧
      IsFillhsvColor 0 ⟨0, 15, 17⟩ 2 ⟨0, 17, 17⟩ 1 ⟨1, 2, 3⟩) :=
  ⟨⟨ready_offered _, rfl, by decide, by decide⟩, ⟨ready_offered _, rfl, by decide, by decide⟩,
    .inl (by decide), .inr (by decide)⟩

/-- Vector G8's colours on indices 4 to 7; the end colour is at the edge of the domain. -/
theorem witness_FillhsvFillsTheRange :
    (offered (encode (.fillhsv 4 ⟨0, 0, 17⟩ 7 ⟨0, 15, 34⟩))).ready ∧
    (offered (encode (.fillhsv 4 ⟨0, 0, 17⟩ 7 ⟨0, 15, 34⟩))).port =
      some (encode (.fillhsv 4 ⟨0, 0, 17⟩ 7 ⟨0, 15, 34⟩)) ∧
    (4 : Index).toNat ≤ (7 : Index).toNat ∧ (7 : Index).toNat < 8 ∧
    (0 : Byte).toNat ≤ 15 ∧ (17 : Byte).toNat ≤ 34 ∧ (15 : Byte).toNat ≤ 15 ∧ (34 : Byte).toNat ≤ 34 :=
  ⟨ready_offered _, rfl, by decide, by decide, by decide, by decide, by decide, by decide⟩

/-- Vectors F2 (index 7 is stored, 8 is refused) and F3 (nothing is stored), as FILLRGB and as
FILLHSV. -/
theorem witness_BoundsFaultLeavesTheEarlierWrites :
    ((offered (encode (.fillrgb 7 ⟨5, 6, 7⟩ 8 ⟨8, 9, 10⟩))).ready ∧
      (offered (encode (.fillrgb 7 ⟨5, 6, 7⟩ 8 ⟨8, 9, 10⟩))).port =
        some (encode (.fillrgb 7 ⟨5, 6, 7⟩ 8 ⟨8, 9, 10⟩))) ∧
    ((offered (encode (.fillhsv 7 ⟨5, 6, 7⟩ 8 ⟨8, 9, 10⟩))).ready ∧
      (offered (encode (.fillhsv 7 ⟨5, 6, 7⟩ 8 ⟨8, 9, 10⟩))).port =
        some (encode (.fillhsv 7 ⟨5, 6, 7⟩ 8 ⟨8, 9, 10⟩))) ∧
    ((7 : Index).toNat ≤ (8 : Index).toNat ∧ (7 : Index).toNat < 8 ∧ 8 ≤ (8 : Index).toNat) ∧
    ((offered (encode (.fillrgb 8 ⟨5, 6, 7⟩ 9 ⟨8, 9, 10⟩))).port =
        some (encode (.fillrgb 8 ⟨5, 6, 7⟩ 9 ⟨8, 9, 10⟩)) ∧
      (offered (encode (.fillhsv 8 ⟨5, 6, 7⟩ 9 ⟨8, 9, 10⟩))).port =
        some (encode (.fillhsv 8 ⟨5, 6, 7⟩ 9 ⟨8, 9, 10⟩)) ∧
      (offered (encode (.fillhsv 8 ⟨5, 6, 7⟩ 9 ⟨8, 9, 10⟩))).bufLen ≤ (8 : Index).toNat) :=
  ⟨⟨ready_offered _, rfl⟩, ⟨ready_offered _, rfl⟩, ⟨by decide, by decide, by decide⟩, rfl, rfl,
    by decide⟩

/-- Vector G9 (SOLIDHSV), and the same fill as SOLIDRGB. -/
theorem witness_SolidFillStoresOneColor :
    (offered (encode (Instr.solidRgb 2 7 ⟨64, 15, 17⟩))).ready ∧
    (offered (encode (Instr.solidRgb 2 7 ⟨64, 15, 17⟩))).port =
      some (encode (Instr.solidRgb 2 7 ⟨64, 15, 17⟩)) ∧
    (offered (encode (Instr.solidHsv 2 7 ⟨64, 15, 17⟩))).port =
      some (encode (Instr.solidHsv 2 7 ⟨64, 15, 17⟩)) ∧
    (2 : Index).toNat ≤ (7 : Index).toNat ∧ (7 : Index).toNat < 8 ∧
    hsv2rgb 64 15 17 = some ⟨0, 0, 255⟩ :=
  ⟨ready_offered _, rfl, rfl, by decide, by decide, by decide⟩

theorem witness_FillEndpointsAreExact :
    (offered (encode (.fillrgb 6 ⟨0, 15, 17⟩ 7 ⟨32, 15, 17⟩))).ready ∧
    (offered (encode (.fillrgb 6 ⟨0, 15, 17⟩ 7 ⟨32, 15, 17⟩))).port =
      some (encode (.fillrgb 6 ⟨0, 15, 17⟩ 7 ⟨32, 15, 17⟩)) ∧
    (offered (encode (.fillhsv 6 ⟨0, 15, 17⟩ 7 ⟨32, 15, 17⟩))).port =
      some (encode (.fillhsv 6 ⟨0, 15, 17⟩ 7 ⟨32, 15, 17⟩)) ∧
    (6 : Index).toNat < (7 : Index).toNat ∧ (7 : Index).toNat < 8 ∧
    hsv2rgb 0 15 17 = some ⟨255, 0, 0⟩ ∧ hsv2rgb 32 15 17 = some ⟨0, 255, 0⟩ :=
  ⟨ready_offered _, rfl, rfl, by decide, by decide, by decide, by decide⟩

/-- Each command at the boundary of its duties. -/
theorem witness_DutifulCommandsEndNormally :
    (offered (encode (.wrpix 7 ⟨1, 2, 3⟩))).ready ∧
    (offered (encode (.wrpix 7 ⟨1, 2, 3⟩))).port = some (encode (.wrpix 7 ⟨1, 2, 3⟩)) ∧
    dutiesKept 8 (.wrpix 7 ⟨1, 2, 3⟩) = true ∧ dutiesKept 8 (.convert 255 15 34) = true ∧
    dutiesKept 8 (.fillhsv 0 ⟨0, 15, 34⟩ 7 ⟨255, 0, 0⟩) = true ∧
    dutiesKept 8 (.fillrgb 7 ⟨0, 0, 0⟩ 7 ⟨255, 255, 255⟩) = true :=
  ⟨ready_offered _, rfl, by decide, by decide, by decide, by decide⟩

/-- A core in its fill, at the last iteration, has the invariant. -/
theorem inv_inFillAt : Inv (inFillAt 4 5 ⟨255, 0, 10⟩ 7 ⟨0, 0, 20⟩ 2) where
  len_pos := by decide
  len_le := by decide
  buf_wf := rfl
  buf_below := rfl
  result_high := by decide
  cause_zero := by decide
  cause_set := by decide
  fault_stops := by decide
  fidx_bounds := by decide
  fidx_zero := by decide
  fill_op := by decide
  fill_step := by decide

theorem witness_EveryFillTerminates :
    Inv (inFillAt 4 5 ⟨255, 0, 10⟩ 7 ⟨0, 0, 20⟩ 2) ∧
    (inFillAt 4 5 ⟨255, 0, 10⟩ 7 ⟨0, 0, 20⟩ 2).filling :=
  ⟨inv_inFillAt, filling_inFillAt _ _ _ _ _ _⟩

theorem witness_StepKeepsTheInvariant :
    Inv (inFillAt 4 5 ⟨255, 0, 10⟩ 7 ⟨0, 0, 20⟩ 2) ∧
    ∃ t, step (inFillAt 4 5 ⟨255, 0, 10⟩ 7 ⟨0, 0, 20⟩ 2) = .next t :=
  ⟨inv_inFillAt, _, rfl⟩

theorem witness_LaunchHasTheInvariant :
    1 ≤ 65536 ∧ 65536 ≤ 65536 ∧ Memory.wf [(0, ⟨9, 9, 9⟩), (65535, ⟨1, 1, 1⟩)] = true ∧
    Memory.below [(0, ⟨9, 9, 9⟩), (65535, ⟨1, 1, 1⟩)] 65536 = true := by decide

/-- A WRPIX, whose index is the one element that may change; the outcome of the step exists. -/
theorem witness_StepStoresOneElementInsideTheBuffer :
    (∃ t, step (offered 0x020007010203000000000000) = .next t) ∧
    (offered 0x020007010203000000000000).storeIndex = some 7 ∧
    (offered 0x020007010203000000000000).bufLen ≤ 8 :=
  ⟨⟨_, rfl⟩, by decide, by decide⟩

theorem witness_CoreNeverReadsTheBuffer :
    (∃ r, step faulted = .fault r) ∧
    (∃ t, step (inFillAt 4 5 ⟨255, 0, 10⟩ 7 ⟨0, 0, 20⟩ 2) = .next t) :=
  ⟨⟨_, rfl⟩, _, rfl⟩

theorem witness_LatchAndStepMatterOnlyInAFill :
    (offered 0x030001000F11000007600F11).ready ∧ (State.launch 8 []).ready :=
  ⟨ready_offered _, ready_launch⟩

/-- The three uses (for the fill step vector G13, iteration 1), and a CONVERT of the domain, which is none
of them. -/
theorem witness_EachDrawIsASeparateOne :
    ((applyReset faulted).resetIn = true ∧
      ∃ t u, step (applyReset faulted) = .next t ∧ runCore 2 t = .next u) ∧
    ((offered 0x010000001011000000000000).convertDraws ∧
      ∃ t, step (offered 0x010000001011000000000000) = .next t ∧ t.draws = 1) ∧
    ((inFillAt 3 0 ⟨0, 15, 17⟩ 2 ⟨0, 17, 17⟩ 1).fillStepDraws ∧
      ∃ t, step (inFillAt 3 0 ⟨0, 15, 17⟩ 2 ⟨0, 17, 17⟩ 1) = .next t ∧ t.draws = 1) ∧
    ((offered 0x010000000F11000000000000).resetIn = false ∧
      ∃ t, step (offered 0x010000000F11000000000000) = .next t ∧ t.draws = 0) :=
  ⟨⟨rfl, _, _, rfl, rfl⟩,
    ⟨⟨ready_offered _, _, 0, 16, 17, rfl, by decide, by decide⟩, _, rfl, by decide⟩,
    ⟨⟨filling_inFillAt _ _ _ _ _ _, rfl, by decide, by decide⟩, _, rfl, by decide⟩,
    rfl, _, rfl, by decide⟩

/-- The premise of the last clause on a state: its CONVERT is in the domain and it is in no fill. -/
theorem witness_EachDrawIsASeparateOne_noDraw :
    ¬ (offered 0x010000000F11000000000000).convertDraws ∧
    ¬ (offered 0x010000000F11000000000000).fillStepDraws := by
  constructor
  · rintro ⟨-, w, h, sat, v, hp, hd, hn⟩
    obtain rfl : 0x010000000F11000000000000 = w := Option.some.inj hp
    rw [show decode 0x010000000F11000000000000 = .ok (.convert 0 15 17) by decide] at hd
    simp only [Except.ok.injEq, Instr.convert.injEq] at hd
    obtain ⟨rfl, rfl, rfl⟩ := hd
    exact absurd hn (by decide)
  · rintro ⟨⟨-, -, hb⟩, -⟩
    exact absurd hb (by decide)

/-- Outside the buffer, the two ends of the fill, the elements next to them, and an idle core. -/
theorem witness_HostStoreKeepsOutOfTheFill :
    (inFillAt 4 3 ⟨0, 0, 0⟩ 5 ⟨1, 1, 1⟩ 0).bufLen ≤ 8 ∧
    inFill 3 (inFillAt 4 3 ⟨0, 0, 0⟩ 5 ⟨1, 1, 1⟩ 0) = true ∧
    inFill 5 (inFillAt 4 3 ⟨0, 0, 0⟩ 5 ⟨1, 1, 1⟩ 0) = true ∧
    inFill 2 (inFillAt 4 3 ⟨0, 0, 0⟩ 5 ⟨1, 1, 1⟩ 0) = false ∧
    inFill 6 (inFillAt 4 3 ⟨0, 0, 0⟩ 5 ⟨1, 1, 1⟩ 0) = false ∧
    inFill 3 (State.launch 8 []) = false := by decide

end Sys2Proof.Tests
end

namespace Sys2Proof.Machine

/-! ### The STATUS and RESULT words (10_state.md R23, R27) -/

@[simp] theorem extractLsb'_resultWord (b : BitVec 24) : (resultWord b).extractLsb' 24 8 = 0 :=
  BitVec.extractLsb'_append_eq_left

theorem Status.getLsbD_word_flags (st : Status) :
    st.word.getLsbD 0 = st.busy ∧ st.word.getLsbD 1 = st.fault ∧
      st.word.getLsbD 2 = st.rvalid := by
  simp only [Status.word, BitVec.getLsbD_append]
  simp

/-- A field of STATUS that starts above the three flags lies in FIDX, CAUSE and the zero bits. -/
theorem Status.extractLsb'_word_of_three_le (st : Status) {start : Nat} (len : Nat)
    (h : 3 ≤ start) :
    st.word.extractLsb' start len =
      (st.fidx ++ st.cause ++ (0 : BitVec 5)).extractLsb' (start - 1 - 1 - 1) len := by
  rw [Status.word, BitVec.extractLsb'_append_eq_of_le (by omega),
    BitVec.extractLsb'_append_eq_of_le (by omega), BitVec.extractLsb'_append_eq_of_le (by omega)]

theorem Status.extractLsb'_word_zeroBits (st : Status) : st.word.extractLsb' 3 5 = 0 := by
  rw [st.extractLsb'_word_of_three_le 5 (by decide)]
  exact BitVec.extractLsb'_append_eq_right

theorem Status.extractLsb'_word_cause (st : Status) : st.word.extractLsb' 8 8 = st.cause := by
  rw [st.extractLsb'_word_of_three_le 8 (by decide),
    BitVec.extractLsb'_append_eq_of_le (by decide)]
  exact BitVec.extractLsb'_append_eq_right

theorem Status.extractLsb'_word_fidx (st : Status) : st.word.extractLsb' 16 16 = st.fidx := by
  rw [st.extractLsb'_word_of_three_le 16 (by decide),
    BitVec.extractLsb'_append_eq_of_le (by decide)]
  exact BitVec.extractLsb'_append_eq_left

/-! ### What a conversion leaves unchanged, and the step of a core that can accept -/

/-- A conversion leaves the state as it is, or takes one draw. -/
theorem convertColor_state (hue saturation value : Byte) (s : State) :
    (convertColor hue saturation value s).2 = s ∨
      (convertColor hue saturation value s).2 = s.nextDraw := by
  rcases convertColor_cases hue saturation value s with ⟨_, -, h⟩ | ⟨-, h⟩ <;> simp [h]

@[simp] theorem convertColor_status (hue saturation value : Byte) (s : State) :
    (convertColor hue saturation value s).2.status = s.status := by
  rcases convertColor_state hue saturation value s with h | h <;> simp [h]

@[simp] theorem convertColor_latch (hue saturation value : Byte) (s : State) :
    (convertColor hue saturation value s).2.latch = s.latch := by
  rcases convertColor_state hue saturation value s with h | h <;> simp [h]

@[simp] theorem convertColor_stepCtr (hue saturation value : Byte) (s : State) :
    (convertColor hue saturation value s).2.stepCtr = s.stepCtr := by
  rcases convertColor_state hue saturation value s with h | h <;> simp [h]

theorem step_of_ready_of_port_none {s : State} (hs : s.ready) (hp : s.port = none) :
    step s = .next s := by
  obtain ⟨hr, hb, hf⟩ := hs
  simp [step, hr, hb, hf, fetch, hp]

theorem step_of_ready_of_decode_ok {s : State} {w : CommandWord} {i : Instr} (hs : s.ready)
    (hp : s.port = some w) (hd : decode w = .ok i) : step s = exec i s.consume := by
  obtain ⟨hr, hb, hf⟩ := hs
  simp [step, hr, hb, hf, fetch, hp, hd]

theorem step_of_ready_of_decode_error {s : State} {w : CommandWord} {e : DecodeError}
    (hs : s.ready) (hp : s.port = some w) (hd : decode w = .error e) :
    step s = .next (takeIllegal s.consume) := by
  obtain ⟨hr, hb, hf⟩ := hs
  simp [step, hr, hb, hf, fetch, hp, hd]

theorem execWrpix_of_lt {k : Index} {s : State} (c : Rgb) (h : k.toNat < s.bufLen) :
    execWrpix k c s = .next (s.store k.toNat c) := by
  simp [execWrpix, writePixel_of_lt c h]

theorem execWrpix_of_le {k : Index} {s : State} (c : Rgb) (h : s.bufLen ≤ k.toNat) :
    execWrpix k c s = .next (s.raise (.boundsFault k.toNat)) := by
  simp [execWrpix, writePixel_of_le c h]

theorem acceptFill_of_lt {si ei : Index} (op : Opcode) (sc ec : Triple) (s : State)
    (h : ei.toNat < si.toNat) : acceptFill op si sc ei ec s = s.raise .rangeFault := by
  simp [acceptFill, h]

theorem acceptFill_of_le {si ei : Index} (op : Opcode) (sc ec : Triple) (s : State)
    (h : si.toNat ≤ ei.toNat) :
    acceptFill op si sc ei ec s = s.beginFill (Latch.load op si sc ei ec) := by
  simp [acceptFill, Nat.not_lt.mpr h]

/-! ### The invariant under each state operation -/

/-- With STATUS = 0 the invariant asks only for a legal buffer and the zero bits of RESULT. -/
theorem Inv.of_cleared {s : State} (hpos : 1 ≤ s.bufLen) (hle : s.bufLen ≤ Config.maxBufLen)
    (hwf : s.buf.wf = true) (hbelow : s.buf.below s.bufLen = true)
    (hres : s.result.extractLsb' 24 8 = 0) (hst : s.status = Status.cleared) : Inv s where
  len_pos := hpos
  len_le := hle
  buf_wf := hwf
  buf_below := hbelow
  result_high := hres
  cause_zero := by simp [hst]
  cause_set := by simp [hst]
  fault_stops := by simp [hst]
  fidx_bounds := by simp [hst]
  fidx_zero := by simp [hst]
  fill_op := by simp [hst]
  fill_step := by simp [hst]

theorem Inv.resetCore {s : State} (h : Inv s) : Inv (resetCore s) :=
  .of_cleared h.len_pos h.len_le h.buf_wf h.buf_below (extractLsb'_resultWord _) rfl

theorem Inv.consume {s : State} (h : Inv s) : Inv s.consume := { h with }

theorem Inv.nextDraw {s : State} (h : Inv s) : Inv s.nextDraw := { h with }

theorem Inv.returnColor {s : State} (h : Inv s) (c : Rgb) : Inv (s.returnColor c) :=
  { h with result_high := extractLsb'_resultWord _ }

theorem Inv.store {s : State} {k : Nat} (h : Inv s) (c : Rgb) (hk : k < s.bufLen) :
    Inv (s.store k c) :=
  { h with
    buf_wf := Memory.wf_write k c h.buf_wf
    buf_below := Memory.below_write c hk h.buf_below }

theorem Inv.convertColor {s : State} (h : Inv s) (hue saturation value : Byte) :
    Inv (convertColor hue saturation value s).2 := by
  rcases convertColor_state hue saturation value s with e | e
  · rwa [e]
  · rw [e]; exact h.nextDraw

theorem Inv.fillPixel {s : State} (h : Inv s) (l : Latch) (i : Nat) :
    Inv (fillPixel l i s).2 := by
  rcases fillPixel_state l i s with e | e
  · rwa [e]
  · rw [e]; exact h.nextDraw

theorem FaultCause.code_eq (f : FaultCause) : f.code = 1 ∨ f.code = 2 ∨ f.code = 3 := by
  cases f <;> simp

theorem FaultCause.fidx_of_code_ne {f : FaultCause} (h : f.code ≠ 3) : f.fidx = 0 := by
  cases f with
  | illegalCommand => rfl
  | rangeFault => rfl
  | boundsFault k => exact absurd rfl h

/-- Fault entry: the one condition is that the FIDX of a BoundsFault is not below BUF_LEN. -/
theorem Inv.raise {s : State} {f : FaultCause} (h : Inv s)
    (hbounds : f.code = 3 → s.bufLen ≤ f.fidx.toNat) : Inv (s.raise f) :=
  { h with
    cause_zero := by simp
    cause_set := fun _ => f.code_eq
    fault_stops := fun _ => rfl
    fidx_bounds := hbounds
    fidx_zero := FaultCause.fidx_of_code_ne
    fill_op := by simp
    fill_step := by simp }

theorem Inv.raise_illegalCommand {s : State} (h : Inv s) : Inv (s.raise .illegalCommand) :=
  h.raise (by simp)

theorem Inv.raise_rangeFault {s : State} (h : Inv s) : Inv (s.raise .rangeFault) :=
  h.raise (by simp)

/-- FIDX is 16 bits wide: the refused index must fit for FIDX to be not below BUF_LEN. -/
theorem Inv.raise_boundsFault {s : State} {k : Nat} (h : Inv s) (hk : s.bufLen ≤ k)
    (hfits : k < 2 ^ 16) : Inv (s.raise (.boundsFault k)) :=
  h.raise fun _ => by
    rwa [FaultCause.fidx_boundsFault, BitVec.toNat_ofNat, Nat.mod_eq_of_lt hfits]

theorem Inv.beginFill {s : State} {l : Latch} (h : Inv s) (hf : s.status.fault = false)
    (hop : l.op = 3 ∨ l.op = 4) (hgap : 0 ≤ l.gap) : Inv (s.beginFill l) :=
  { h with
    fault_stops := by simp [hf]
    fill_op := fun _ => hop
    fill_step := fun _ => by simpa using hgap }

theorem Inv.endFill {s : State} (h : Inv s) : Inv s.endFill :=
  { h with
    fault_stops := fun _ => rfl
    fill_op := by simp
    fill_step := by simp }

theorem Latch.gap_lt (l : Latch) : l.gap < 2 ^ 16 := by
  unfold Latch.gap
  omega

/-- The increment of STEP does not wrap, because STEP is below the gap. -/
theorem Inv.nextIteration {s : State} (h : Inv s) (hne : (s.stepCtr.toNat : Int) ≠ s.latch.gap) :
    Inv s.nextIteration :=
  { h with
    fill_step := fun hb => by
      have hle := h.fill_step hb
      have hgap := s.latch.gap_lt
      have hinc : (s.stepCtr + 1).toNat = s.stepCtr.toNat + 1 := by
        exact BitVec.toNat_add_of_lt (show s.stepCtr.toNat + 1 < 2 ^ 16 by omega)
      simp only [State.nextIteration_stepCtr, State.nextIteration_latch, hinc]
      omega }

/-! ### The invariant under the parts of a step -/

theorem Inv.fillAdvance {s : State} (h : Inv s) : Inv (fillAdvance s) := by
  rcases fillAdvance_cases s with ⟨-, e⟩ | ⟨hne, e⟩
  · rw [e]; exact h.endFill
  · rw [e]; exact h.nextIteration hne

/-- During a fill the index of the step is at most LATCH.EI, so it fits in FIDX (R90). -/
theorem Inv.index_lt {s : State} (h : Inv s) (hb : s.status.busy = true) :
    s.latch.index s.stepCtr.toNat < 2 ^ 16 := by
  have hle := h.fill_step hb
  simp only [Latch.gap] at hle
  have hei := s.latch.ei.isLt
  rw [Latch.index]
  omega

theorem Inv.fillStep {s : State} (h : Inv s) (hb : s.status.busy = true) : Inv (fillStep s) := by
  rcases fillStep_cases s with ⟨hlt, e⟩ | ⟨hle, e⟩
  · rw [e]
    exact ((h.fillPixel _ _).store _ (by simpa using hlt)).fillAdvance
  · rw [e]
    exact h.raise_boundsFault hle (h.index_lt hb)

theorem Inv.acceptFill {s : State} {op : Opcode} (h : Inv s) (hf : s.status.fault = false)
    (hop : op.bits = 3 ∨ op.bits = 4) (si : Index) (sc : Triple) (ei : Index) (ec : Triple) :
    Inv (acceptFill op si sc ei ec s) := by
  rcases acceptFill_cases op si sc ei ec s with ⟨-, e⟩ | ⟨hle, e⟩
  · rw [e]; exact h.raise_rangeFault
  · rw [e]
    exact h.beginFill hf hop (by simp only [Latch.gap, Latch.load_si, Latch.load_ei]; omega)

/-- The acceptance of a command by a core without a fault keeps the invariant. -/
theorem Inv.exec {s t : State} {i : Instr} (h : Inv s) (hf : s.status.fault = false)
    (he : exec i s = .next t) : Inv t := by
  rcases exec_cases i s with ⟨hue, sat, v, -, e⟩ | ⟨k, c, -, hk, e⟩ | ⟨k, c, -, hk, e⟩ |
      ⟨si, sc, ei, ec, -, e⟩ | ⟨si, sc, ei, ec, -, e⟩ <;>
    obtain rfl := Host.Outcome.next.inj (e.symm.trans he)
  · exact (h.convertColor hue sat v).returnColor _
  · exact h.store c hk
  · exact h.raise_boundsFault hk k.isLt
  · exact h.acceptFill hf (.inl rfl) si sc ei ec
  · exact h.acceptFill hf (.inr rfl) si sc ei ec

/-- Settles O51, by the five cases of 70 R137. -/
theorem stepKeepsTheInvariant : Obligations.StepKeepsTheInvariant := by
  intro s t h hstep
  rcases step_next_cases hstep with ⟨-, rfl⟩ | ⟨⟨-, -, hb⟩, rfl⟩ | ⟨-, -, rfl⟩ |
      ⟨⟨-, -, hf⟩, w, i, -, -, he⟩ | ⟨-, w, e, -, -, rfl⟩
  · exact h.resetCore
  · exact h.fillStep hb
  · exact h
  · exact h.consume.exec hf he
  · exact h.consume.raise_illegalCommand

/-! ### LATCH and STEP outside a fill -/

/-- The state with other contents of LATCH and STEP. -/
def State.withLatchStep (l : Latch) (n : BitVec 16) (s : State) : State :=
  { s with latch := l, stepCtr := n }

theorem State.ready.withLatchStep {s : State} (hs : s.ready) (l : Latch) (n : BitVec 16) :
    (s.withLatchStep l n).ready := hs

theorem convertColor_withLatchStep (hue saturation value : Byte) (l : Latch) (n : BitVec 16)
    (s : State) :
    convertColor hue saturation value (s.withLatchStep l n) =
      ((convertColor hue saturation value s).1,
        (convertColor hue saturation value s).2.withLatchStep l n) := by
  cases h : hsv2rgb hue saturation value with
  | some c => rw [convertColor_of_some _ h, convertColor_of_some _ h]
  | none => rw [convertColor_of_none _ h, convertColor_of_none _ h]; rfl

/-- `t` and `t'` are what the same action makes of `s` and of `s.withLatchStep l n`: a fill has
loaded LATCH and STEP, or the core is idle and both stand as they were. -/
def LoadedOrKept (l : Latch) (n : BitVec 16) (s t t' : State) : Prop :=
  (t.status.busy = true ∧ t' = t) ∨
    (t.status.busy = false ∧ t.latch = s.latch ∧ t.stepCtr = s.stepCtr ∧ t' = t.withLatchStep l n)

theorem acceptFill_loadedOrKept (op : Opcode) (si : Index) (sc : Triple) (ei : Index)
    (ec : Triple) (l : Latch) (n : BitVec 16) (s : State) :
    LoadedOrKept l n s (acceptFill op si sc ei ec s)
      (acceptFill op si sc ei ec (s.withLatchStep l n)) := by
  rcases Nat.lt_or_ge ei.toNat si.toNat with h | h
  · rw [acceptFill_of_lt _ _ _ _ h, acceptFill_of_lt _ _ _ _ h]
    exact .inr ⟨rfl, rfl, rfl, rfl⟩
  · rw [acceptFill_of_le _ _ _ _ h, acceptFill_of_le _ _ _ _ h]
    exact .inl ⟨rfl, rfl⟩

theorem exec_loadedOrKept (i : Instr) {s : State} (hb : s.status.busy = false) (l : Latch)
    (n : BitVec 16) :
    ∃ t t', exec i s = .next t ∧ exec i (s.withLatchStep l n) = .next t' ∧
      LoadedOrKept l n s t t' := by
  cases i with
  | convert hue sat v =>
    refine ⟨_, _, rfl, rfl, .inr ⟨by simpa using hb, by simp, by simp, ?_⟩⟩
    rw [convertColor_withLatchStep]
    rfl
  | wrpix k c =>
    rcases Nat.lt_or_ge k.toNat s.bufLen with h | h
    · exact ⟨_, _, execWrpix_of_lt c h, execWrpix_of_lt c h, .inr ⟨hb, rfl, rfl, rfl⟩⟩
    · exact ⟨_, _, execWrpix_of_le c h, execWrpix_of_le c h, .inr ⟨rfl, rfl, rfl, rfl⟩⟩
  | fillhsv si sc ei ec => exact ⟨_, _, rfl, rfl, acceptFill_loadedOrKept _ si sc ei ec l n s⟩
  | fillrgb si sc ei ec => exact ⟨_, _, rfl, rfl, acceptFill_loadedOrKept _ si sc ei ec l n s⟩

/-- The next step of a core that can accept, by what waits at its port: no word, a command, or an
illegal word. -/
theorem step_loadedOrKept {s : State} (hs : s.ready) (l : Latch) (n : BitVec 16) :
    ∃ t t', step s = .next t ∧ step (s.withLatchStep l n) = .next t' ∧
      LoadedOrKept l n s t t' := by
  have hs' : (s.withLatchStep l n).ready := hs.withLatchStep l n
  have ⟨_, hb, _⟩ := hs
  cases hp : s.port with
  | none =>
    exact ⟨_, _, step_of_ready_of_port_none hs hp, step_of_ready_of_port_none hs' hp,
      .inr ⟨hb, rfl, rfl, rfl⟩⟩
  | some w =>
    cases hd : decode w with
    | ok i =>
      obtain ⟨t, t', e, e', hkept⟩ := exec_loadedOrKept i (s := s.consume) hb l n
      exact ⟨t, t', (step_of_ready_of_decode_ok hs hp hd).trans e,
        (step_of_ready_of_decode_ok hs' hp hd).trans e', hkept⟩
    | error e =>
      exact ⟨_, _, step_of_ready_of_decode_error hs hp hd,
        step_of_ready_of_decode_error hs' hp hd, .inr ⟨rfl, rfl, rfl, rfl⟩⟩

/-- Settles O56: its two states are `s` and `s.withLatchStep l n`. -/
theorem latchAndStepMatterOnlyInAFill : Obligations.LatchAndStepMatterOnlyInAFill :=
  fun _ l n hs => step_loadedOrKept hs l n

/-! ### The state after reset and the layout of STATUS -/

/-- Settles O15: STATUS, RESULT and the port of the literal state, which has no reset applied. -/
theorem resetValuesOfTheSpec : Obligations.ResetValuesOfTheSpec :=
  ⟨by decide, by decide, rfl, rfl, rfl, rfl⟩

/-- Settles O16, by the fields of the STATUS word and `writeStatus_eq`. -/
theorem statusWordLayout : Obligations.StatusWordLayout := by
  refine ⟨fun st => ?_, fun s v => ⟨by rw [writeStatus_eq], writeStatus_eq v s⟩⟩
  obtain ⟨hbusy, hfault, hrvalid⟩ := st.getLsbD_word_flags
  exact ⟨hbusy, hfault, hrvalid, st.extractLsb'_word_zeroBits, st.extractLsb'_word_cause,
    st.extractLsb'_word_fidx⟩

/-- Settles O52: STATUS is 0 after reset, the buffer lists nothing and has the largest length. -/
theorem resetHasTheInvariant : Obligations.ResetHasTheInvariant :=
  .of_cleared (by decide) (by decide) Memory.wf_reset rfl (by decide) rfl

end Sys2Proof.Machine

namespace Sys2Proof.Machine

/-! ### The step of a core that cannot accept (70 R137(a) to (c)) -/

theorem step_of_resetIn {s : State} (hr : s.resetIn = true) : step s = .next (resetCore s) := by
  simp [step, hr]

theorem step_of_faulted {s : State} (hr : s.resetIn = false) (hf : s.status.fault = true) :
    step s = .fault (stuckFault s) := by
  simp [step, hr, hf]

theorem step_of_filling {s : State} (hs : s.filling) : step s = .next (fillStep s) := by
  obtain ⟨hr, hf, hb⟩ := hs
  simp [step, hr, hf, hb]

/-! ### The fill step by its index, and what its parts leave unchanged -/

theorem fillStep_of_lt {s : State} (h : s.latch.index s.stepCtr.toNat < s.bufLen) :
    fillStep s = fillAdvance ((fillPixel s.latch s.stepCtr.toNat s).2.store
      (s.latch.index s.stepCtr.toNat) (fillPixel s.latch s.stepCtr.toNat s).1) := by
  rcases fillStep_cases s with ⟨-, e⟩ | ⟨hle, -⟩
  · exact e
  · exact absurd h (Nat.not_lt.mpr hle)

theorem fillStep_of_le {s : State} (h : s.bufLen ≤ s.latch.index s.stepCtr.toNat) :
    fillStep s = s.raise (.boundsFault (s.latch.index s.stepCtr.toNat)) := by
  rcases fillStep_cases s with ⟨hlt, -⟩ | ⟨-, e⟩
  · exact absurd hlt (Nat.not_lt.mpr h)
  · exact e

@[simp] theorem fillAdvance_bufLen (s : State) : (fillAdvance s).bufLen = s.bufLen := by
  rcases fillAdvance_cases s with ⟨-, e⟩ | ⟨-, e⟩ <;> simp [e]

@[simp] theorem convertColor_bufLen (hue saturation value : Byte) (s : State) :
    (convertColor hue saturation value s).2.bufLen = s.bufLen := by
  rcases convertColor_state hue saturation value s with h | h <;> simp [h]

@[simp] theorem acceptFill_bufLen (op : Opcode) (si : Index) (sc : Triple) (ei : Index)
    (ec : Triple) (s : State) : (acceptFill op si sc ei ec s).bufLen = s.bufLen := by
  rcases acceptFill_cases op si sc ei ec s with ⟨-, e⟩ | ⟨-, e⟩ <;> simp [e]

/-! ### The store index of a step -/

theorem State.storeIndex_of_filling {s : State} (hs : s.filling) :
    s.storeIndex = some (s.latch.index s.stepCtr.toNat) := by
  obtain ⟨hr, hf, hb⟩ := hs
  simp [State.storeIndex, hr, hf, hb]

theorem State.storeIndex_of_wrpix {s : State} {w : CommandWord} {k : Index} {c : Rgb}
    (hs : s.ready) (hp : s.port = some w) (hd : decode w = .ok (.wrpix k c)) :
    s.storeIndex = some k.toNat := by
  obtain ⟨hr, hb, hf⟩ := hs
  simp [State.storeIndex, hr, hf, hb, fetch, hp, hd]

/-! ### The same state with other contents in the buffer (20_memory.md R34) -/

/-- The state with other contents of BUF. -/
def State.withBuf (m : Memory) (s : State) : State :=
  { s with buf := m }

@[simp] theorem State.withBuf_buf (m : Memory) (s : State) : (s.withBuf m).buf = m := rfl

theorem State.store_withBuf (k : Nat) (c : Rgb) (m : Memory) (s : State) :
    (s.withBuf m).store k c = s.withBuf (m.write k c) := rfl

theorem convertColor_withBuf (hue saturation value : Byte) (m : Memory) (s : State) :
    convertColor hue saturation value (s.withBuf m) =
      ((convertColor hue saturation value s).1,
        (convertColor hue saturation value s).2.withBuf m) := by
  cases h : hsv2rgb hue saturation value with
  | some c => rw [convertColor_of_some _ h, convertColor_of_some _ h]
  | none => rw [convertColor_of_none _ h, convertColor_of_none _ h]; rfl

theorem fillPixel_withBuf (l : Latch) (i : Nat) (m : Memory) (s : State) :
    fillPixel l i (s.withBuf m) = ((fillPixel l i s).1, (fillPixel l i s).2.withBuf m) := by
  cases h : l.converts with
  | true => simp only [fillPixel, h, if_true, convertColor_withBuf]
  | false => simp [fillPixel, h]

theorem fillAdvance_withBuf (m : Memory) (s : State) :
    fillAdvance (s.withBuf m) = (fillAdvance s).withBuf m :=
  (apply_ite (State.withBuf m) ((s.stepCtr.toNat : Int) = s.latch.gap) s.endFill
    s.nextIteration).symm

theorem acceptFill_withBuf (op : Opcode) (si : Index) (sc : Triple) (ei : Index) (ec : Triple)
    (m : Memory) (s : State) :
    acceptFill op si sc ei ec (s.withBuf m) = (acceptFill op si sc ei ec s).withBuf m :=
  (apply_ite (State.withBuf m) (ei.toNat < si.toNat) (s.raise .rangeFault)
    (s.beginFill (Latch.load op si sc ei ec))).symm

/-! ### An action that reads no element and stores at most one -/

/-- Whatever BUF holds, `act` makes the same next state of `s` but for BUF, keeps BUF_LEN, and
leaves the elements as they are or stores one colour, the same for all contents, at the index `o`
inside the buffer. -/
def KeepsOrStores (act : State → Host.Outcome State Fault Refusal) (o : Option Nat) (s : State) :
    Prop :=
  ∃ t : State, t.bufLen = s.bufLen ∧
    ((∀ m, act (s.withBuf m) = .next (t.withBuf m)) ∨
      ∃ k c, o = some k ∧ k < s.bufLen ∧
        ∀ m, act (s.withBuf m) = .next (t.withBuf (m.write k c)))

theorem KeepsOrStores.congr {act act' : State → Host.Outcome State Fault Refusal} {o : Option Nat}
    {s s' : State} (h : KeepsOrStores act' o s') (hlen : s'.bufLen = s.bufLen)
    (hact : ∀ m, act (s.withBuf m) = act' (s'.withBuf m)) : KeepsOrStores act o s := by
  simpa only [KeepsOrStores, hact, ← hlen] using h

theorem KeepsOrStores.exists_next {act : State → Host.Outcome State Fault Refusal} {o : Option Nat}
    {s : State} (h : KeepsOrStores act o s) : ∃ t, act s = .next t := by
  obtain ⟨t, -, hkept | ⟨k, c, -, -, hstored⟩⟩ := h
  · exact ⟨_, hkept s.buf⟩
  · exact ⟨_, hstored s.buf⟩

theorem fillStep_keepsOrStores (s : State) :
    KeepsOrStores (fun u => .next (fillStep u)) (some (s.latch.index s.stepCtr.toNat)) s := by
  rcases Nat.lt_or_ge (s.latch.index s.stepCtr.toNat) s.bufLen with h | h
  · refine ⟨fillAdvance (fillPixel s.latch s.stepCtr.toNat s).2, by simp,
      .inr ⟨_, (fillPixel s.latch s.stepCtr.toNat s).1, rfl, h, fun m => ?_⟩⟩
    have hstep := fillStep_of_lt (s := s.withBuf m) h
    rw [fillPixel_withBuf, State.store_withBuf, fillAdvance_withBuf] at hstep
    exact congrArg _ hstep
  · exact ⟨s.raise (.boundsFault (s.latch.index s.stepCtr.toNat)), rfl,
      .inl fun m => congrArg _ (fillStep_of_le (s := s.withBuf m) h)⟩

theorem exec_keepsOrStores (i : Instr) {o : Option Nat} (s : State)
    (ho : ∀ k c, i = .wrpix k c → o = some k.toNat) : KeepsOrStores (exec i) o s := by
  cases i with
  | convert hue sat v =>
    refine ⟨(convertColor hue sat v s).2.returnColor (convertColor hue sat v s).1, by simp,
      .inl fun m => ?_⟩
    rw [exec, execConvert, convertColor_withBuf]
    rfl
  | wrpix k c =>
    rcases Nat.lt_or_ge k.toNat s.bufLen with h | h
    · exact ⟨s, rfl, .inr ⟨_, c, ho k c rfl, h, fun m => execWrpix_of_lt (s := s.withBuf m) c h⟩⟩
    · exact ⟨_, State.raise_bufLen _ s, .inl fun m => execWrpix_of_le (s := s.withBuf m) c h⟩
  | fillhsv si sc ei ec =>
    exact ⟨_, acceptFill_bufLen _ si sc ei ec s,
      .inl fun m => congrArg _ (acceptFill_withBuf _ si sc ei ec m s)⟩
  | fillrgb si sc ei ec =>
    exact ⟨_, acceptFill_bufLen _ si sc ei ec s,
      .inl fun m => congrArg _ (acceptFill_withBuf _ si sc ei ec m s)⟩

/-- The step of a core that can accept, by what waits at its port: no word, a command, or an illegal
word. -/
theorem step_keepsOrStores_of_ready {s : State} (hs : s.ready) :
    KeepsOrStores step s.storeIndex s := by
  have hs' : ∀ m, (s.withBuf m).ready := fun _ => hs
  cases hp : s.port with
  | none => exact ⟨s, rfl, .inl fun m => step_of_ready_of_port_none (hs' m) hp⟩
  | some w =>
    cases hd : decode w with
    | ok i =>
      have hexec : KeepsOrStores (exec i) s.storeIndex s.consume :=
        exec_keepsOrStores i _ fun k c e => State.storeIndex_of_wrpix hs hp (e ▸ hd)
      exact hexec.congr rfl fun m => step_of_ready_of_decode_ok (hs' m) hp hd
    | error e =>
      exact ⟨takeIllegal s.consume, rfl, .inl fun m => step_of_ready_of_decode_error (hs' m) hp hd⟩

/-- By the cases of 70 R137: the reset, a core stopped by its fault, a fill step, or the step of a core
that can accept. -/
theorem step_stuck_or_keepsOrStores (s : State) :
    (s.resetIn = false ∧ s.status.fault = true) ∨ KeepsOrStores step s.storeIndex s := by
  cases hr : s.resetIn with
  | true => exact .inr ⟨resetCore s, rfl, .inl fun m => step_of_resetIn (s := s.withBuf m) hr⟩
  | false =>
    cases hf : s.status.fault with
    | true => exact .inl ⟨rfl, rfl⟩
    | false =>
      cases hb : s.status.busy with
      | true =>
        have hs : s.filling := ⟨hr, hf, hb⟩
        rw [State.storeIndex_of_filling hs]
        exact .inr ((fillStep_keepsOrStores s).congr rfl
          fun m => step_of_filling (s := s.withBuf m) hs)
      | false => exact .inr (step_keepsOrStores_of_ready ⟨hr, hb, hf⟩)

theorem step_eq_fault_iff {s : State} {r : Fault} :
    step s = .fault r ↔ s.resetIn = false ∧ s.status.fault = true ∧ r = stuckFault s := by
  constructor
  · intro h
    rcases step_stuck_or_keepsOrStores s with ⟨hr, hf⟩ | hk
    · rw [step_of_faulted hr hf] at h
      exact ⟨hr, hf, (Host.Outcome.fault.inj h).symm⟩
    · obtain ⟨t, ht⟩ := hk.exists_next
      exact absurd (ht.symm.trans h) (by simp)
  · rintro ⟨hr, hf, rfl⟩
    exact step_of_faulted hr hf

/-- A step that answers `t`, and the same step with any other contents of BUF: no element is stored, or
one is, the same in both. -/
theorem step_next_withBuf {s t : State} (h : step s = .next t) :
    t.bufLen = s.bufLen ∧
    ((t.buf = s.buf ∧ ∀ m, step (s.withBuf m) = .next (t.withBuf m)) ∨
      ∃ k c, s.storeIndex = some k ∧ k < s.bufLen ∧ t.buf = s.buf.write k c ∧
        ∀ m, step (s.withBuf m) = .next (t.withBuf (m.write k c))) := by
  rcases step_stuck_or_keepsOrStores s with
    ⟨hr, hf⟩ | ⟨u, hlen, hkept | ⟨k, c, hk, hlt, hstored⟩⟩
  · exact absurd ((step_of_faulted hr hf).symm.trans h) (by simp)
  · obtain rfl : u.withBuf s.buf = t := Host.Outcome.next.inj ((hkept s.buf).symm.trans h)
    exact ⟨hlen, .inl ⟨rfl, hkept⟩⟩
  · obtain rfl : u.withBuf (s.buf.write k c) = t :=
      Host.Outcome.next.inj ((hstored s.buf).symm.trans h)
    exact ⟨hlen, .inr ⟨k, c, hk, hlt, rfl, hstored⟩⟩

/-- Settles O54: the one element a step can store is at its store index, inside the buffer. -/
theorem stepStoresOneElementInsideTheBuffer : Obligations.StepStoresOneElementInsideTheBuffer := by
  intro s t h
  obtain ⟨hlen, ⟨hbuf, -⟩ | ⟨k, c, hk, hlt, hbuf, -⟩⟩ := step_next_withBuf h
  · exact ⟨hlen, fun _ _ => by rw [hbuf], fun _ _ => by rw [hbuf]⟩
  · refine ⟨hlen, fun j hj => ?_, fun j hj => ?_⟩
    · have hne : k ≠ j := fun e => hj (e ▸ hk)
      rw [hbuf, Memory.read_write_other _ c hne]
    · have hne : k ≠ j := by omega
      rw [hbuf, Memory.read_write_other _ c hne]

/-- Settles O55: its two states are `s` and `s.withBuf m`, and the store of the step, if any, is the
same one in both. -/
theorem coreNeverReadsTheBuffer : Obligations.CoreNeverReadsTheBuffer := by
  refine fun s m => ⟨fun r h => ?_, fun t h => ?_⟩
  · obtain ⟨hr, hf, rfl⟩ := step_eq_fault_iff.mp h
    exact step_of_faulted (s := s.withBuf m) hr hf
  · obtain ⟨-, ⟨hbuf, hstep⟩ | ⟨k, c, hk, -, hbuf, hstep⟩⟩ := step_next_withBuf h
    · exact ⟨_, hstep m, rfl, fun _ => .inl ⟨by rw [hbuf], rfl⟩⟩
    · refine ⟨_, hstep m, rfl, fun j => ?_⟩
      rw [hbuf, State.withBuf_buf]
      by_cases hj : k = j
      · subst hj
        exact .inr ⟨hk, by simp⟩
      · exact .inl ⟨Memory.read_write_other _ c hj, Memory.read_write_other _ c hj⟩

end Sys2Proof.Machine

namespace Sys2Proof

/-! ### Appended bit strings -/

theorem append_eq_append_iff {m n : Nat} {a c : BitVec m} {b d : BitVec n} :
    a ++ b = c ++ d ↔ a = c ∧ b = d := by
  refine ⟨fun h => ⟨?_, ?_⟩, fun ⟨hac, hbd⟩ => by rw [hac, hbd]⟩
  · simpa only [BitVec.extractLsb'_append_eq_left] using congrArg (BitVec.extractLsb' n m) h
  · simpa only [BitVec.extractLsb'_append_eq_right] using congrArg (BitVec.extractLsb' 0 n) h

/-- A bit string of `m + n` bits as its high `m` and its low `n` bits. -/
def splitEquiv (m n : Nat) : BitVec (m + n) ≃ BitVec m × BitVec n where
  toFun b := (b.extractLsb' n m, b.extractLsb' 0 n)
  invFun p := p.1 ++ p.2
  left_inv _ := BitVec.extractLsb'_append_extractLsb'
  right_inv _ := Prod.ext BitVec.extractLsb'_append_eq_left BitVec.extractLsb'_append_eq_right

/-! ### The triple in 24 bits (10_state.md R16) -/

@[simp] theorem Triple.pack24_unpack24 (b : BitVec 24) : (Triple.unpack24 b).pack24 = b := by
  have hlow : b.extractLsb' 16 8 ++ b.extractLsb' 8 8 = b.extractLsb' 8 16 :=
    BitVec.extractLsb'_append_extractLsb'_eq_extractLsb' rfl
  simp only [Triple.pack24, Triple.unpack24, hlow]
  exact BitVec.extractLsb'_append_extractLsb'

theorem Triple.pack24_inj {t u : Triple} : t.pack24 = u.pack24 ↔ t = u := by
  obtain ⟨a, b, c⟩ := t
  obtain ⟨a', b', c'⟩ := u
  have hbits : Triple.pack24 ⟨a, b, c⟩ = Triple.pack24 ⟨a', b', c'⟩ ↔ (a = a' ∧ b = b') ∧ c = c' :=
    append_eq_append_iff.trans (and_congr_left' append_eq_append_iff)
  simpa only [Triple.mk.injEq, and_assoc] using hbits

@[simp] theorem Triple.unpack24_pack24 (t : Triple) : Triple.unpack24 t.pack24 = t :=
  Triple.pack24_inj.mp (Triple.pack24_unpack24 _)

/-- A triple in 24 bits. -/
def Triple.bitsEquiv : BitVec 24 ≃ Triple where
  toFun := Triple.unpack24
  invFun := Triple.pack24
  left_inv := Triple.pack24_unpack24
  right_inv := Triple.unpack24_pack24

/-! ### The ten fields in 96 bits (30_encoding.md R46) -/

theorem FormC.toWord_inj {f g : FormC} : f.toWord = g.toWord ↔ f = g := by
  obtain ⟨op, si, sc, rsv, ei, ec⟩ := f
  obtain ⟨op', si', sc', rsv', ei', ec'⟩ := g
  refine ⟨fun h => ?_, fun h => by rw [h]⟩
  obtain ⟨h, hec⟩ := append_eq_append_iff.mp h
  obtain ⟨h, hei⟩ := append_eq_append_iff.mp h
  obtain ⟨h, hrsv⟩ := append_eq_append_iff.mp h
  obtain ⟨h, hsc⟩ := append_eq_append_iff.mp h
  obtain ⟨hop, hsi⟩ := append_eq_append_iff.mp h
  simp_all [Triple.pack24_inj]

@[simp] theorem FormC.toWord_ofWord (w : CommandWord) : (FormC.ofWord w).toWord = w := by
  have hsi : w.extractLsb' 88 8 ++ w.extractLsb' 72 16 = w.extractLsb' 72 24 :=
    BitVec.extractLsb'_append_extractLsb'_eq_extractLsb' rfl
  have hsc : w.extractLsb' 72 24 ++ w.extractLsb' 48 24 = w.extractLsb' 48 48 :=
    BitVec.extractLsb'_append_extractLsb'_eq_extractLsb' rfl
  have hrsv : w.extractLsb' 48 48 ++ w.extractLsb' 40 8 = w.extractLsb' 40 56 :=
    BitVec.extractLsb'_append_extractLsb'_eq_extractLsb' rfl
  have hei : w.extractLsb' 40 56 ++ w.extractLsb' 24 16 = w.extractLsb' 24 72 :=
    BitVec.extractLsb'_append_extractLsb'_eq_extractLsb' rfl
  simp only [FormC.toWord, FormC.ofWord, Triple.pack24_unpack24, hsi, hsc, hrsv, hei]
  exact BitVec.extractLsb'_append_extractLsb'

@[simp] theorem FormC.ofWord_toWord (f : FormC) : FormC.ofWord f.toWord = f :=
  FormC.toWord_inj.mp (FormC.toWord_ofWord _)

theorem FormC.ofWord_eq_iff {w : CommandWord} {f : FormC} : FormC.ofWord w = f ↔ w = f.toWord := by
  rw [← FormC.toWord_inj, FormC.toWord_ofWord]

theorem FormC.ofWord_inj {w v : CommandWord} : FormC.ofWord w = FormC.ofWord v ↔ w = v := by
  rw [FormC.ofWord_eq_iff, FormC.toWord_ofWord]

/-! ### The decoder is the inverse of the encoder (30_encoding.md R54) -/

theorem Instr.instr_formC (i : Instr) : i.formC.instr = .ok i := by
  cases i <;> simp [Instr.formC, FormC.instr]

/-- The tests on the way to each command give the fields that its operands do not. -/
theorem FormC.eq_formC_of_instr {f : FormC} {i : Instr} (h : f.instr = .ok i) : f = i.formC := by
  obtain ⟨op, si, ⟨c0, c1, c2⟩, rsv, ei, ec⟩ := f
  unfold FormC.instr at h
  split_ifs at h <;> cases h
  all_goals simp_all [Instr.formC]

theorem decode_eq_ok_iff_fields {w : CommandWord} {i : Instr} :
    decode w = .ok i ↔ FormC.ofWord w = i.formC :=
  ⟨FormC.eq_formC_of_instr, fun h => by rw [decode, h, Instr.instr_formC]⟩

theorem decode_eq_ok_iff {w : CommandWord} {i : Instr} : decode w = .ok i ↔ w = encode i :=
  decode_eq_ok_iff_fields.trans FormC.ofWord_eq_iff

theorem decode_encode (i : Instr) : decode (encode i) = .ok i :=
  decode_eq_ok_iff.mpr rfl

theorem encode_injective : Function.Injective encode := fun i _ h =>
  Except.ok.inj ((decode_encode i).symm.trans (decode_eq_ok_iff.mpr h))

/-! ### The four encodings bit for bit (30_encoding.md R54) -/

theorem append_pack24 {n : Nat} (x : BitVec n) (t : Triple) :
    x ++ t.pack24 = (x ++ t.c0 ++ t.c1 ++ t.c2 : BitVec (n + 8 + 8 + 8)) :=
  calc x ++ t.pack24
    _ = x ++ (t.c0 ++ t.c1) ++ t.c2 := BitVec.append_assoc'
    _ = x ++ t.c0 ++ t.c1 ++ t.c2 := congrArg (· ++ t.c2) BitVec.append_assoc'

/-- RSV and the end fields of a command that takes no end are 48 zero bits. -/
theorem append_unusedFields {n : Nat} (x : BitVec n) :
    x ++ (0 : BitVec 8) ++ (0 : BitVec 16) ++ Triple.zero.pack24 = x ++ (0 : BitVec 48) :=
  calc x ++ (0 : BitVec 8) ++ (0 : BitVec 16) ++ Triple.zero.pack24
    _ = x ++ ((0 : BitVec 8) ++ (0 : BitVec 16)) ++ Triple.zero.pack24 :=
      congrArg (· ++ Triple.zero.pack24) BitVec.append_assoc'.symm
    _ = x ++ ((0 : BitVec 8) ++ (0 : BitVec 16) ++ Triple.zero.pack24) := BitVec.append_assoc'.symm

theorem encode_convert (h s v : Byte) : encode (.convert h s v) =
    (0x01 : BitVec 8) ++ (0x0000 : BitVec 16) ++ h ++ s ++ v ++ (0 : BitVec 48) :=
  (append_unusedFields _).trans (congrArg (· ++ (0 : BitVec 48)) (append_pack24 _ ⟨h, s, v⟩))

theorem encode_wrpix (idx : Index) (r g b : Byte) : encode (.wrpix idx ⟨r, g, b⟩) =
    (0x02 : BitVec 8) ++ idx ++ r ++ g ++ b ++ (0 : BitVec 48) :=
  (append_unusedFields _).trans (congrArg (· ++ (0 : BitVec 48)) (append_pack24 _ ⟨r, g, b⟩))

theorem toWord_ofBytes (op rsv : BitVec 8) (si ei : Index) (a b c d e f : Byte) :
    FormC.toWord ⟨op, si, ⟨a, b, c⟩, rsv, ei, ⟨d, e, f⟩⟩ =
      op ++ si ++ a ++ b ++ c ++ rsv ++ ei ++ d ++ e ++ f :=
  (append_pack24 _ ⟨d, e, f⟩).trans
    (congrArg (· ++ rsv ++ ei ++ d ++ e ++ f) (append_pack24 (op ++ si) ⟨a, b, c⟩))

/-! ### The number of legal words of each command (30_encoding.md R54) -/

/-- As many words decode to a command of the form `f a` as there are bit strings for the operands
`a`, when no two operands give the same command. -/
theorem nonempty_equiv_legalWords {α β : Type} {P : CommandWord → Prop} (operands : β ≃ α)
    (f : α → Instr) (hf : Function.Injective f) (hP : ∀ w, P w ↔ ∃ a, decode w = .ok (f a)) :
    Nonempty (β ≃ { w : CommandWord // P w }) := by
  have hrange : ∀ w, w ∈ Set.range (encode ∘ f) ↔ P w := fun w =>
    (exists_congr fun _ => eq_comm.trans decode_eq_ok_iff.symm).trans (hP w).symm
  have words : α ≃ { w : CommandWord // P w } :=
    (Equiv.ofInjective _ (encode_injective.comp hf)).trans (Equiv.subtypeEquivRight hrange)
  exact ⟨operands.trans words⟩

/-- An index and a triple in 40 bits. -/
def indexTripleEquiv : BitVec 40 ≃ Index × Triple :=
  (splitEquiv 16 24).trans ((Equiv.refl _).prodCongr Triple.bitsEquiv)

/-- Two indices, each with a triple, in 80 bits. -/
def fillOperandsEquiv : BitVec 80 ≃ (Index × Triple) × (Index × Triple) :=
  (splitEquiv 40 40).trans (indexTripleEquiv.prodCongr indexTripleEquiv)

theorem nonempty_equiv_convertWords :
    Nonempty (BitVec 24 ≃ { w : CommandWord // ∃ h s v, decode w = .ok (.convert h s v) }) :=
  nonempty_equiv_legalWords Triple.bitsEquiv (fun t => .convert t.c0 t.c1 t.c2)
    (fun ⟨_, _, _⟩ ⟨_, _, _⟩ h => by simpa using h)
    (fun _ => ⟨fun ⟨h, s, v, e⟩ => ⟨⟨h, s, v⟩, e⟩, fun ⟨_, e⟩ => ⟨_, _, _, e⟩⟩)

theorem nonempty_equiv_wrpixWords :
    Nonempty (BitVec 40 ≃ { w : CommandWord // ∃ k c, decode w = .ok (.wrpix k c) }) :=
  nonempty_equiv_legalWords indexTripleEquiv (fun p => .wrpix p.1 p.2)
    (fun ⟨_, _⟩ ⟨_, _⟩ h => by simpa using h)
    (fun _ => ⟨fun ⟨k, c, e⟩ => ⟨(k, c), e⟩, fun ⟨_, e⟩ => ⟨_, _, e⟩⟩)

theorem nonempty_equiv_fillWords (fill : Index → Triple → Index → Triple → Instr)
    (hf : ∀ {si sc ei ec si' sc' ei' ec'}, fill si sc ei ec = fill si' sc' ei' ec' →
      si = si' ∧ sc = sc' ∧ ei = ei' ∧ ec = ec') :
    Nonempty (BitVec 80 ≃
      { w : CommandWord // ∃ si sc ei ec, decode w = .ok (fill si sc ei ec) }) :=
  nonempty_equiv_legalWords fillOperandsEquiv (fun p => fill p.1.1 p.1.2 p.2.1 p.2.2)
    (fun ⟨⟨_, _⟩, _, _⟩ ⟨⟨_, _⟩, _, _⟩ h => by simpa [and_assoc] using hf h)
    (fun _ => ⟨fun ⟨si, sc, ei, ec, e⟩ => ⟨((si, sc), ei, ec), e⟩, fun ⟨_, e⟩ => ⟨_, _, _, _, e⟩⟩)

/-- Settles O1: the encodings field by field, both round trips by `decode_eq_ok_iff`, and the counts
by the bijections of the operands with the words that `encode` gives them. -/
theorem encodeAndDecodeAreInverse : Obligations.EncodeAndDecodeAreInverse :=
  ⟨encode_convert, encode_wrpix,
    fun si ei h0 s0 v0 h1 s1 v1 => toWord_ofBytes 0x03 0x00 si ei h0 s0 v0 h1 s1 v1,
    fun si ei r0 g0 b0 r1 g1 b1 => toWord_ofBytes 0x04 0x00 si ei r0 g0 b0 r1 g1 b1,
    fun i _ => decode_encode i, fun _ _ h => (decode_eq_ok_iff.mp h).symm,
    nonempty_equiv_convertWords, nonempty_equiv_wrpixWords,
    nonempty_equiv_fillWords .fillhsv Instr.fillhsv.inj,
    nonempty_equiv_fillWords .fillrgb Instr.fillrgb.inj⟩

/-! ### The decoder on the bits of the word (30_encoding.md R46, R53) -/

theorem Triple.unpack24_extractLsb' (w : CommandWord) (k : Nat) :
    Triple.unpack24 (w.extractLsb' k 24) =
      ⟨w.extractLsb' (k + 16) 8, w.extractLsb' (k + 8) 8, w.extractLsb' k 8⟩ := by
  have hhigh : w.extractLsb' (k + 16) 8 ++ w.extractLsb' (k + 8) 8 = w.extractLsb' (k + 8) 16 :=
    BitVec.extractLsb'_append_extractLsb'_eq_extractLsb' rfl
  have hall : w.extractLsb' (k + 8) 16 ++ w.extractLsb' k 8 = w.extractLsb' k 24 :=
    BitVec.extractLsb'_append_extractLsb'_eq_extractLsb' rfl
  rw [← Triple.pack24_inj, Triple.pack24_unpack24, Triple.pack24, hhigh, hall]

theorem Triple.unpack24_eq_zero_iff {b : BitVec 24} : Triple.unpack24 b = Triple.zero ↔ b = 0 := by
  rw [← Triple.pack24_inj, Triple.pack24_unpack24]
  rfl

/-- The low half of the word is RSV, EI and EC. -/
theorem extractLsb'_lowHalf_eq_zero_iff {w : CommandWord} :
    w.extractLsb' 0 48 = 0 ↔
      w.extractLsb' 40 8 = 0 ∧ w.extractLsb' 24 16 = 0 ∧ w.extractLsb' 0 24 = 0 := by
  have hlow : w.extractLsb' 24 16 ++ w.extractLsb' 0 24 = w.extractLsb' 0 40 :=
    BitVec.extractLsb'_append_extractLsb'_eq_extractLsb' rfl
  have hall : w.extractLsb' 40 8 ++ w.extractLsb' 0 40 = w.extractLsb' 0 48 :=
    BitVec.extractLsb'_append_extractLsb'_eq_extractLsb' rfl
  have hzero : (0 : BitVec 48) = (0 : BitVec 8) ++ ((0 : BitVec 16) ++ (0 : BitVec 24)) := rfl
  rw [← hall, ← hlow, hzero]
  exact append_eq_append_iff.trans (and_congr_right' append_eq_append_iff)

theorem decode_eq_convert_iff {w : CommandWord} {h s v : Byte} :
    decode w = .ok (.convert h s v) ↔
      w.extractLsb' 40 8 = 0 ∧ w.extractLsb' 88 8 = 0x01 ∧ w.extractLsb' 72 16 = 0 ∧
      w.extractLsb' 0 48 = 0 ∧
      h = w.extractLsb' 64 8 ∧ s = w.extractLsb' 56 8 ∧ v = w.extractLsb' 48 8 := by
  rw [decode_eq_ok_iff_fields, extractLsb'_lowHalf_eq_zero_iff]
  simp only [FormC.ofWord, Instr.formC, FormC.mk.injEq, Triple.unpack24_eq_zero_iff,
    Triple.unpack24_extractLsb' w 48, Triple.mk.injEq]
  tauto

theorem decode_eq_wrpix_iff {w : CommandWord} {idx : Index} {c : Rgb} :
    decode w = .ok (.wrpix idx c) ↔
      w.extractLsb' 40 8 = 0 ∧ w.extractLsb' 88 8 = 0x02 ∧ w.extractLsb' 0 48 = 0 ∧
      idx = w.extractLsb' 72 16 ∧
      c = ⟨w.extractLsb' 64 8, w.extractLsb' 56 8, w.extractLsb' 48 8⟩ := by
  rw [decode_eq_ok_iff_fields, extractLsb'_lowHalf_eq_zero_iff]
  simp only [FormC.ofWord, Instr.formC, FormC.mk.injEq, Triple.unpack24_eq_zero_iff,
    Triple.unpack24_extractLsb' w 48]
  tauto

theorem ofWord_eq_fill_iff {w : CommandWord} {op : BitVec 8} {si ei : Index} {sc ec : Triple} :
    FormC.ofWord w = ⟨op, si, sc, 0, ei, ec⟩ ↔
      w.extractLsb' 40 8 = 0 ∧ w.extractLsb' 88 8 = op ∧
      si = w.extractLsb' 72 16 ∧ ei = w.extractLsb' 24 16 ∧
      sc = ⟨w.extractLsb' 64 8, w.extractLsb' 56 8, w.extractLsb' 48 8⟩ ∧
      ec = ⟨w.extractLsb' 16 8, w.extractLsb' 8 8, w.extractLsb' 0 8⟩ := by
  simp only [FormC.ofWord, FormC.mk.injEq, Triple.unpack24_extractLsb']
  tauto

/-! ### Which words are legal (30_encoding.md R49, R50) -/

theorem FormC.legal_iff {f : FormC} :
    f.legal = true ↔ (f.op = 1 ∨ f.op = 2 ∨ f.op = 3 ∨ f.op = 4) ∧ f.rsv = 0 ∧
      (f.op = 1 → f.si = 0) ∧ (f.op = 1 ∨ f.op = 2 → f.ei = 0 ∧ f.ec = Triple.zero) := by
  simp [FormC.legal, FormC.opDefined, FormC.rsvZero, FormC.startIndexUsed, FormC.endUsed,
    and_assoc, or_assoc, imp_iff_not_or]

@[simp] theorem Instr.formC_op (i : Instr) : i.formC.op = i.opcode.bits := by
  cases i <;> rfl

theorem Opcode.bits_injective : Function.Injective Opcode.bits := by
  intro a b h
  cases a <;> cases b <;> simp_all [Opcode.bits]

theorem Instr.formC_legal (i : Instr) : i.formC.legal = true := by
  cases i with
  | convert h s v => exact Laws.EncodesLegally.convert h s v
  | wrpix k c => exact Laws.EncodesLegally.wrpix k c
  | fillhsv si sc ei ec => exact Laws.EncodesLegally.fillhsv si sc ei ec
  | fillrgb si sc ei ec => exact Laws.EncodesLegally.fillrgb si sc ei ec

theorem FormC.exists_instr_of_legal {f : FormC} (h : f.legal = true) : ∃ i, f.instr = .ok i := by
  obtain ⟨hop, hrsv, hsi, hend⟩ := FormC.legal_iff.mp h
  rcases hop with hop | hop | hop | hop
  · obtain ⟨hei, hec⟩ := hend (.inl hop)
    simp [FormC.instr, hop, hrsv, hsi hop, hei, hec]
  · obtain ⟨hei, hec⟩ := hend (.inr hop)
    simp [FormC.instr, hop, hrsv, hei, hec]
  · simp [FormC.instr, hop, hrsv]
  · simp [FormC.instr, hop, hrsv]

theorem decode_isOk_iff {w : CommandWord} :
    (∃ i, decode w = .ok i) ↔ (FormC.ofWord w).legal = true := by
  refine ⟨fun ⟨i, h⟩ => ?_, FormC.exists_instr_of_legal⟩
  rw [decode_eq_ok_iff_fields.mp h]
  exact i.formC_legal

/-- A defined opcode is one that is not reserved (30_encoding.md R47, R50). -/
theorem opDefined_iff {op : BitVec 8} :
    (op = 1 ∨ op = 2 ∨ op = 3 ∨ op = 4) ↔ ¬ (op = 0 ∨ 0x05 ≤ op.toNat) := by
  bv_omega

/-- A legal word is one for which no condition of 30_encoding.md R50 holds, on the bits of the
word. -/
theorem ofWord_legal_iff {w : CommandWord} :
    (FormC.ofWord w).legal = true ↔
      ¬ (w.extractLsb' 88 8 = 0 ∨ 0x05 ≤ (w.extractLsb' 88 8).toNat ∨ w.extractLsb' 40 8 ≠ 0 ∨
        (w.extractLsb' 88 8 = 0x01 ∧ (w.extractLsb' 72 16 ≠ 0 ∨ w.extractLsb' 0 48 ≠ 0)) ∨
        (w.extractLsb' 88 8 = 0x02 ∧ w.extractLsb' 0 48 ≠ 0)) := by
  rw [FormC.legal_iff, opDefined_iff]
  simp only [FormC.ofWord, Triple.unpack24_eq_zero_iff, ne_eq, extractLsb'_lowHalf_eq_zero_iff]
  tauto

/-! ### The rows of the opcode table (30_encoding.md R53) -/

/-- The bitwise AND of two triples. -/
def Triple.and (t u : Triple) : Triple :=
  ⟨t.c0 &&& u.c0, t.c1 &&& u.c1, t.c2 &&& u.c2⟩

/-- The triple whose 24 bits are all 1. -/
def Triple.ones : Triple :=
  ⟨.allOnes 8, .allOnes 8, .allOnes 8⟩

theorem Triple.and_zero (t : Triple) : t.and Triple.zero = Triple.zero := by
  simp [Triple.and, Triple.zero]

theorem Triple.and_ones (t : Triple) : t.and Triple.ones = t := by
  simp only [Triple.and, Triple.ones, BitVec.and_allOnes]

/-- The bitwise AND of two words, field by field. -/
def FormC.and (f g : FormC) : FormC :=
  ⟨f.op &&& g.op, f.si &&& g.si, f.sc.and g.sc, f.rsv &&& g.rsv, f.ei &&& g.ei, f.ec.and g.ec⟩

theorem FormC.ofWord_and (w m : CommandWord) :
    FormC.ofWord (w &&& m) = (FormC.ofWord w).and (FormC.ofWord m) := by
  simp only [FormC.ofWord, FormC.and, Triple.unpack24, Triple.and, BitVec.extractLsb'_and]

theorem OpcodeRow.selects_iff_fields {r : OpcodeRow} {w : CommandWord} :
    r.selects w = true ↔ (FormC.ofWord w).and (FormC.ofWord r.mask) = FormC.ofWord r.pattern := by
  rw [← FormC.ofWord_and, FormC.ofWord_inj, OpcodeRow.selects, beq_iff_eq]

/-- The mask of a command's row, field by field: OP, RSV and the fields the command does not
take. -/
def Opcode.mask : Opcode → FormC
  | .convert => ⟨.allOnes 8, .allOnes 16, Triple.zero, .allOnes 8, .allOnes 16, Triple.ones⟩
  | .wrpix => ⟨.allOnes 8, 0, Triple.zero, .allOnes 8, .allOnes 16, Triple.ones⟩
  | .fillhsv => ⟨.allOnes 8, 0, Triple.zero, .allOnes 8, 0, Triple.zero⟩
  | .fillrgb => ⟨.allOnes 8, 0, Triple.zero, .allOnes 8, 0, Triple.zero⟩

theorem fields_of_mem_opcodeTable : ∀ r ∈ opcodeTable,
    FormC.ofWord r.mask = r.opcode.mask ∧
      FormC.ofWord r.pattern = ⟨r.opcode.bits, 0, Triple.zero, 0, 0, Triple.zero⟩ := by
  decide

theorem FormC.and_mask_iff (f : FormC) (op : Opcode) :
    f.and op.mask = ⟨op.bits, 0, Triple.zero, 0, 0, Triple.zero⟩ ↔
      f.op = op.bits ∧ f.legal = true := by
  rw [FormC.legal_iff]
  cases op <;>
    simp only [FormC.and, Opcode.mask, Opcode.bits, FormC.mk.injEq, Triple.and_zero,
      Triple.and_ones, BitVec.and_allOnes] <;>
    refine and_congr_right fun hop => ?_ <;>
    simp [hop, and_left_comm]

theorem OpcodeRow.selects_iff {r : OpcodeRow} (hr : r ∈ opcodeTable) (w : CommandWord) :
    r.selects w = true ↔ (FormC.ofWord w).op = r.opcode.bits ∧ (FormC.ofWord w).legal = true := by
  obtain ⟨hmask, hpattern⟩ := fields_of_mem_opcodeTable r hr
  rw [OpcodeRow.selects_iff_fields, hmask, hpattern, FormC.and_mask_iff]

/-- A command's word selects the row of its opcode, and no illegal word selects a row. -/
theorem OpcodeRow.selects_iff_decode {r : OpcodeRow} (hr : r ∈ opcodeTable) (w : CommandWord) :
    r.selects w = true ↔ ∃ i, decode w = .ok i ∧ r.opcode = i.opcode := by
  rw [OpcodeRow.selects_iff hr]
  constructor
  · rintro ⟨hop, hlegal⟩
    obtain ⟨i, hi⟩ := decode_isOk_iff.mpr hlegal
    refine ⟨i, hi, Opcode.bits_injective ?_⟩
    rw [← hop, decode_eq_ok_iff_fields.mp hi, Instr.formC_op]
  · rintro ⟨i, hi, hop⟩
    rw [decode_eq_ok_iff_fields.mp hi, hop]
    exact ⟨i.formC_op, i.formC_legal⟩

theorem exists_mem_opcodeTable (op : Opcode) : ∃ r ∈ opcodeTable, r.opcode = op := by
  cases op <;> decide

theorem opcode_injOn_opcodeTable :
    ∀ r ∈ opcodeTable, ∀ r' ∈ opcodeTable, r.opcode = r'.opcode → r = r' := by
  decide

/-- Settles O2: the fields by `decode_eq_ok_iff_fields`, the rows by
`OpcodeRow.selects_iff_decode`. -/
theorem decoderAgreesWithFieldsAndTable : Obligations.DecoderAgreesWithFieldsAndTable := by
  refine fun w => ⟨fun _ _ _ => decode_eq_convert_iff, fun _ _ => decode_eq_wrpix_iff,
    fun _ _ _ _ => decode_eq_ok_iff_fields.trans ofWord_eq_fill_iff,
    fun _ _ _ _ => decode_eq_ok_iff_fields.trans ofWord_eq_fill_iff, ?_, ?_, ?_⟩
  · intro i h
    obtain ⟨r, hr, hop⟩ := exists_mem_opcodeTable i.opcode
    exact ⟨r, hr, (OpcodeRow.selects_iff_decode hr w).mpr ⟨i, h, hop⟩, hop⟩
  · intro e h r hr
    rw [Bool.eq_false_iff, ne_eq, OpcodeRow.selects_iff_decode hr, h]
    simp
  · intro r hr r' hr' h h'
    obtain ⟨i, hi, hop⟩ := (OpcodeRow.selects_iff_decode hr w).mp h
    obtain ⟨j, hj, hop'⟩ := (OpcodeRow.selects_iff_decode hr' w).mp h'
    obtain rfl : i = j := Except.ok.inj (hi.symm.trans hj)
    exact opcode_injOn_opcodeTable r hr r' hr' (hop.trans hop'.symm)

end Sys2Proof

namespace Sys2Proof.Machine

/-! ### Illegal words at the port, and the placed word (30_encoding.md R50, 70 R137) -/

/-- Settles O4: the words that do not decode are those `ofWord_legal_iff` describes, and their step
is `takeIllegal`. -/
theorem illegalWordRaisesIllegalCommand : Obligations.IllegalWordRaisesIllegalCommand := by
  refine fun s w hs hp => ⟨fun hillegal => ?_, fun hlegal => ?_⟩
  · cases hd : decode w with
    | ok i => exact absurd hillegal (ofWord_legal_iff.mp (decode_isOk_iff.mp ⟨i, hd⟩))
    | error e => exact step_of_ready_of_decode_error hs hp hd
  · exact decode_isOk_iff.mpr (ofWord_legal_iff.mpr hlegal)

/-- Settles O3: the decoder evaluated on five words. -/
theorem wordsWrittenOutDecode : Obligations.WordsWrittenOutDecode := by
  refine ⟨?_, ?_, ?_, ?_, ?_⟩ <;> decide

theorem decodeTableWord_eq_some_iff {n w : Nat} {i : Instr} :
    decodeTableWord n w = some i ↔ decode (tableWord n w) = .ok i := by
  unfold decodeTableWord
  cases decode (tableWord n w) <;> simp

theorem State.ready_withFetchWord (s : State) (nbits w : Nat) : (s.withFetchWord nbits w).ready :=
  ⟨rfl, rfl, rfl⟩

/-- Settles O7: the placed word waits at the port of a core that can accept it. -/
theorem fetchWordIsRunNext : Obligations.FetchWordIsRunNext := fun s w _ h =>
  step_of_ready_of_decode_ok (s.ready_withFetchWord 96 w) rfl (decodeTableWord_eq_some_iff.mp h)

end Sys2Proof.Machine

namespace Sys2Proof.Machine

/-! ### The steps of the converter (40_convert.md R60 to R68) -/

theorem mirroredValue_of_le {value : Int} (h : value ≤ 17) : mirroredValue value = value :=
  if_neg (Int.not_lt.mpr h)

theorem mirroredValue_of_lt {value : Int} (h : 17 < value) : mirroredValue value = 34 - value :=
  if_pos h

theorem mirroredValue_mem {value : Int} (h0 : 0 ≤ value) (h34 : value ≤ 34) :
    0 ≤ mirroredValue value ∧ mirroredValue value ≤ 17 := by
  rcases Int.lt_or_le 17 value with h | h
  · rw [mirroredValue_of_lt h]; omega
  · rw [mirroredValue_of_le h]; omega

theorem mirroredValue_pos {value : Int} (h1 : 1 ≤ value) (h33 : value ≤ 33) :
    1 ≤ mirroredValue value := by
  rcases Int.lt_or_le 17 value with h | h
  · rw [mirroredValue_of_lt h]; omega
  · rwa [mirroredValue_of_le h]

/-- The mirroring of the value axis about 17 (R60). -/
theorem mirroredValue_mirror {value : Int} (h : 18 ≤ value) :
    mirroredValue (34 - value) = mirroredValue value := by
  have hle : mirroredValue (34 - value) = 34 - value := mirroredValue_of_le (by omega)
  have hlt : mirroredValue value = 34 - value := mirroredValue_of_lt (by omega)
  rw [hle, hlt]

theorem segmentOffset_mem (hue : Int) : 0 ≤ segmentOffset hue ∧ segmentOffset hue ≤ 15 := by
  simp only [segmentOffset, Config.hueSegment]
  omega

theorem sextant_mem (hue : Int) : 0 ≤ sextant hue ∧ sextant hue ≤ 5 := by
  simp only [sextant, Config.hueFull, Config.hueSegment]
  omega

/-- The reduced hue is its band number and its offset in the band. -/
theorem emod_eq_sextant_add_offset (hue : Int) :
    hue % 96 = 16 * sextant hue + segmentOffset hue := by
  simp only [sextant, segmentOffset, Config.hueFull, Config.hueSegment]
  omega

/-- A hue whose reduced value is `16 * k + o` lies in band `k` at offset `o`. -/
theorem sextant_segmentOffset_of_emod {hue k o : Int} (h : hue % 96 = 16 * k + o) (h0 : 0 ≤ o)
    (h15 : o ≤ 15) : sextant hue = k ∧ segmentOffset hue = o := by
  have hsplit := emod_eq_sextant_add_offset hue
  have ho := segmentOffset_mem hue
  omega

theorem sextant_emod (hue : Int) : sextant (hue % 96) = sextant hue := by
  simp only [sextant, Config.hueFull, Int.emod_emod]

theorem segmentOffset_emod (hue : Int) : segmentOffset (hue % 96) = segmentOffset hue :=
  Int.emod_emod_of_dvd hue (by decide)

/-! ### The channel values, in terms of the product of saturation and value -/

theorem peak_eq (v : Int) : peak v = 15 * v := Int.mul_comm v 15

theorem trough_eq (sat v : Int) : trough sat v = 15 * v - sat * v := by
  simp only [trough, Config.maxSaturation]
  ring

theorem trough_nonneg {sat v : Int} (hv : 0 ≤ v) (hsat : sat ≤ 15) : 0 ≤ trough sat v :=
  Int.mul_nonneg hv (Int.sub_nonneg.mpr hsat)

theorem delta_nonneg {sat v offset : Int} (hsat : 0 ≤ sat) (hv : 0 ≤ v) (ho : 0 ≤ offset) :
    0 ≤ delta sat v offset :=
  Int.ediv_nonneg (Int.mul_nonneg (Int.mul_nonneg hsat hv) ho) (by decide)

/-- `delta` stays below the distance of low from high, as the offset is below 16 (R72). -/
theorem delta_lt {sat v offset : Int} (hsat : 1 ≤ sat) (hv : 1 ≤ v) (ho : offset ≤ 15) :
    delta sat v offset < sat * v := by
  have hpos : 0 < sat * v := Int.mul_pos hsat hv
  have hlt : sat * v * offset < sat * v * 16 := Int.mul_lt_mul_of_pos_left (by omega) hpos
  exact Int.ediv_lt_of_lt_mul (by decide) hlt

theorem delta_zero (sat v : Int) : delta sat v 0 = 0 := by simp [delta]

theorem risingChannel_eq (sat v : Int) {offset : Int} (ho : 0 ≤ offset) :
    risingChannel sat v offset = trough sat v + delta sat v offset := by
  rcases Int.lt_or_eq_of_le ho with h | rfl
  · exact if_pos h
  · simp [risingChannel, delta_zero]

theorem risingChannel_zero (sat v : Int) : risingChannel sat v 0 = trough sat v := rfl

theorem fallingChannel_zero (sat v : Int) : fallingChannel sat v 0 = peak v := rfl

theorem fallingChannel_of_pos (sat v : Int) {offset : Int} (ho : 0 < offset) :
    fallingChannel sat v offset = peak v - (delta sat v offset + 1) := if_pos ho


theorem mul_mem_of_le {a b m n : Int} (ha : 0 ≤ a) (ham : a ≤ m) (hb : 0 ≤ b) (hbn : b ≤ n) :
    0 ≤ a * b ∧ a * b ≤ m * n :=
  ⟨Int.mul_nonneg ha hb, mul_le_mul ham hbn hb (ha.trans ham)⟩

theorem risingChannel_mem {sat v offset : Int} (hsat : 1 ≤ sat) (hv : 1 ≤ v) (ho : 0 ≤ offset)
    (ho15 : offset ≤ 15) :
    trough sat v ≤ risingChannel sat v offset ∧ risingChannel sat v offset ≤ peak v - 1 := by
  have hdelta := delta_nonneg (by omega : 0 ≤ sat) (by omega : 0 ≤ v) ho
  have hlt := delta_lt hsat hv ho15
  rw [risingChannel_eq sat v ho, trough_eq, peak_eq]
  omega

theorem fallingChannel_mem {sat v offset : Int} (hsat : 1 ≤ sat) (hv : 1 ≤ v) (ho : 0 ≤ offset)
    (ho15 : offset ≤ 15) :
    trough sat v ≤ fallingChannel sat v offset ∧ fallingChannel sat v offset ≤ peak v := by
  have hdelta := delta_nonneg (by omega : 0 ≤ sat) (by omega : 0 ≤ v) ho
  have hlt := delta_lt hsat hv ho15
  rcases Int.lt_or_eq_of_le ho with hpos | rfl
  · rw [fallingChannel_of_pos sat v hpos, trough_eq, peak_eq]
    omega
  · rw [fallingChannel_zero, trough_eq, peak_eq]
    omega

/-- Settles O22, row by row of the table of R71. -/
theorem converterIntermediateRanges : Obligations.ConverterIntermediateRanges := by
  intro hue sat value _ _ hsat0 hsat15 hvalue0 hvalue34 v offset
  have hv : 0 ≤ v ∧ v ≤ 17 := mirroredValue_mem hvalue0 hvalue34
  have ho : 0 ≤ offset ∧ offset ≤ 15 := segmentOffset_mem hue
  refine ⟨hv, ho, by omega, sextant_mem hue, fun hv1 => by rw [peak_eq]; omega,
    fun hv1 hsat1 => ?_⟩
  have hlow : 0 ≤ v * (15 - sat) ∧ v * (15 - sat) ≤ 17 * 14 :=
    mul_mem_of_le hv.1 hv.2 (by omega) (by omega)
  have hvo : 0 ≤ v * offset ∧ v * offset ≤ 17 * 15 := mul_mem_of_le hv.1 hv.2 ho.1 ho.2
  have hsv : 0 ≤ sat * v ∧ sat * v ≤ 15 * 17 := mul_mem_of_le hsat0 hsat15 hv.1 hv.2
  have hprod : 0 ≤ sat * v * offset ∧ sat * v * offset ≤ 15 * 17 * 15 :=
    mul_mem_of_le hsv.1 hsv.2 ho.1 ho.2
  have hdelta : 0 ≤ delta sat v offset ∧ delta sat v offset ≤ 239 := by
    simp only [delta, Config.hueSegment]
    omega
  exact ⟨by omega, hlow, hvo, hprod, hdelta, by omega,
    risingChannel_mem hsat1 hv1 ho.1 ho.2, fallingChannel_mem hsat1 hv1 ho.1 ho.2⟩

/-- Settles O30, by the two branches of the rising and the falling channel. -/
theorem fallingChannelIsOneDarker : Obligations.FallingChannelIsOneDarker := by
  intro sat v offset ho _
  refine ⟨fun hpos => ?_, ?_⟩
  · rw [risingChannel_eq sat v ho, fallingChannel_of_pos sat v hpos]
    omega
  · rintro rfl
    exact ⟨risingChannel_zero sat v, fallingChannel_zero sat v⟩

/-! ### The exact conversion, by its three paths (40_convert.md R69) -/

theorem hsv2rgbExact_of_mirroredValue_eq_zero (hue sat : Int) {value : Int}
    (h : mirroredValue value = 0) : hsv2rgbExact hue sat value = ⟨0, 0, 0⟩ := if_pos h

theorem hsv2rgbExact_saturation_zero (hue value : Int) :
    hsv2rgbExact hue 0 value =
      ⟨peak (mirroredValue value), peak (mirroredValue value), peak (mirroredValue value)⟩ := by
  by_cases h : mirroredValue value = 0
  · rw [hsv2rgbExact_of_mirroredValue_eq_zero hue 0 h, h]
    rfl
  · exact if_neg h

theorem hsv2rgbExact_of_pos (hue : Int) {sat value : Int} (hsat : 1 ≤ sat)
    (hv : 1 ≤ mirroredValue value) :
    hsv2rgbExact hue sat value =
      assignChannels (sextant hue) (peak (mirroredValue value))
        (trough sat (mirroredValue value))
        (risingChannel sat (mirroredValue value) (segmentOffset hue))
        (fallingChannel sat (mirroredValue value) (segmentOffset hue)) := by
  have hv0 : mirroredValue value ≠ 0 := by omega
  have hsat0 : sat ≠ 0 := by omega
  simp only [hsv2rgbExact, hv0, hsat0, if_false]

/-- The three paths of a conversion with saturation and value in their domain. -/
theorem hsv2rgbExact_paths {sat value : Int} (hsat : 0 ≤ sat) (h0 : 0 ≤ value)
    (h34 : value ≤ 34) :
    mirroredValue value = 0 ∨ sat = 0 ∨ (1 ≤ sat ∧ 1 ≤ mirroredValue value) := by
  have hv := mirroredValue_mem h0 h34
  omega

theorem hsv2rgbExact_congr {hue hue' sat value value' : Int} (hk : sextant hue = sextant hue')
    (ho : segmentOffset hue = segmentOffset hue')
    (hv : mirroredValue value = mirroredValue value') :
    hsv2rgbExact hue sat value = hsv2rgbExact hue' sat value' := by
  simp only [hsv2rgbExact, hk, ho, hv]

/-! ### The channels of the exact conversion -/

def Channels.toList (c : Channels) : List Int := [c.red, c.green, c.blue]

@[simp] theorem Channels.mem_toList {c : Channels} {x : Int} :
    x ∈ c.toList ↔ x = c.red ∨ x = c.green ∨ x = c.blue := by
  simp [Channels.toList]

theorem mem_assignChannels {k high low rising falling x : Int}
    (hx : x ∈ (assignChannels k high low rising falling).toList) :
    x = high ∨ x = low ∨ x = rising ∨ x = falling := by
  rw [Channels.mem_toList, assignChannels] at hx
  split_ifs at hx <;> dsimp only at hx <;> tauto

/-- Every channel is 0, high, low, rising or falling (R68, R72). -/
theorem mem_hsv2rgbExact {hue sat value x : Int} (hsat : 0 ≤ sat) (h0 : 0 ≤ value)
    (h34 : value ≤ 34)
    (hx : x ∈ (hsv2rgbExact hue sat value).toList) :
    x = 0 ∨ x = peak (mirroredValue value) ∨ x = trough sat (mirroredValue value) ∨
      x = risingChannel sat (mirroredValue value) (segmentOffset hue) ∨
      x = fallingChannel sat (mirroredValue value) (segmentOffset hue) := by
  rcases hsv2rgbExact_paths hsat h0 h34 with hv | rfl | ⟨hsat1, hv1⟩
  · rw [hsv2rgbExact_of_mirroredValue_eq_zero hue sat hv] at hx
    exact .inl (by simpa using hx)
  · rw [hsv2rgbExact_saturation_zero] at hx
    exact .inr (.inl (by simpa using hx))
  · rw [hsv2rgbExact_of_pos hue hsat1 hv1] at hx
    exact .inr (mem_assignChannels hx)

/-- No channel leaves 0 to 255: high is at most 255 and bounds the others, and low is not negative
(R72). -/
theorem mem_hsv2rgbExact_range {hue sat value x : Int} (hsat : 0 ≤ sat) (hsat15 : sat ≤ 15)
    (h0 : 0 ≤ value) (h34 : value ≤ 34)
    (hx : x ∈ (hsv2rgbExact hue sat value).toList) :
    0 ≤ x ∧ x ≤ 255 := by
  have hv := mirroredValue_mem h0 h34
  have hpeak := peak_eq (mirroredValue value)
  rcases hsv2rgbExact_paths hsat h0 h34 with hv0 | rfl | ⟨hsat1, hv1⟩
  · rw [hsv2rgbExact_of_mirroredValue_eq_zero hue sat hv0] at hx
    have : x = 0 := by simpa using hx
    omega
  · rw [hsv2rgbExact_saturation_zero] at hx
    have : x = peak (mirroredValue value) := by simpa using hx
    omega
  · have ho := segmentOffset_mem hue
    have hlow := trough_nonneg hv.1 hsat15
    have hrising := risingChannel_mem hsat1 hv1 ho.1 ho.2
    have hfalling := fallingChannel_mem hsat1 hv1 ho.1 ho.2
    rw [hsv2rgbExact_of_pos hue hsat1 hv1] at hx
    have := mem_assignChannels hx
    omega

theorem toNat_ofInt_byte {x : Int} (h : 0 ≤ x ∧ x ≤ 255) :
    ((BitVec.ofInt 8 x).toNat : Int) = x := by
  rw [BitVec.toNat_ofInt]
  omega

/-- The bytes of the colour are the exact channels: nothing is lost. -/
def Channels.Bytes (e : Channels) (c : Rgb) : Prop :=
  (c.c0.toNat : Int) = e.red ∧ (c.c1.toNat : Int) = e.green ∧ (c.c2.toNat : Int) = e.blue

/-- In the documented domain the narrowing of R69 loses nothing (R72). -/
theorem hsv2rgb_bytes (h : Byte) {sat v : Byte} (hsat : sat.toNat ≤ 15) (hv : v.toNat ≤ 34) :
    ∃ c, hsv2rgb h sat v = some c ∧ (hsv2rgbExact h.toNat sat.toNat v.toNat).Bytes c := by
  have hrange : ∀ x ∈ (hsv2rgbExact h.toNat sat.toNat v.toNat).toList, 0 ≤ x ∧ x ≤ 255 := fun _ =>
    mem_hsv2rgbExact_range (by omega) (by omega) (by omega) (by omega)
  exact ⟨_, hsv2rgb_of_inDomain h ((inDomain_iff sat v).mpr ⟨hsat, hv⟩),
    toNat_ofInt_byte (hrange _ (by simp)), toNat_ofInt_byte (hrange _ (by simp)),
    toNat_ofInt_byte (hrange _ (by simp))⟩

/-- Settles O23, by the list of a channel's values and their range. -/
theorem channelsNeverClip : Obligations.ChannelsNeverClip := by
  intro h sat v hsat hv e m o
  have hrange : ∀ x ∈ e.toList, 0 ≤ x ∧ x ≤ 255 := fun _ =>
    mem_hsv2rgbExact_range (by omega) (by omega) (by omega) (by omega)
  exact ⟨fun _ => mem_hsv2rgbExact (by omega) (by omega) (by omega), hrange _ (by simp),
    hrange _ (by simp), hrange _ (by simp), hsv2rgb_bytes h hsat hv⟩

/-! ### The laws of the converter (40_convert.md R74 to R78) -/

theorem hsv2rgb_eq_some_of_exact {h sat v : Byte} {c : Channels} (hsat : sat.toNat ≤ 15)
    (hv : v.toNat ≤ 34) (hc : hsv2rgbExact h.toNat sat.toNat v.toNat = c) :
    hsv2rgb h sat v = some c.toRgb :=
  hc ▸ hsv2rgb_of_inDomain h ((inDomain_iff sat v).mpr ⟨hsat, hv⟩)

/-- The result depends on the hue through its band and offset, and on the value through the mirrored
value. -/
theorem hsv2rgb_congr {h h' sat v v' : Byte} (hdom : inDomain sat v = inDomain sat v')
    (hk : sextant h.toNat = sextant h'.toNat) (ho : segmentOffset h.toNat = segmentOffset h'.toNat)
    (hv : mirroredValue v.toNat = mirroredValue v'.toNat) :
    hsv2rgb h sat v = hsv2rgb h' sat v' := by
  rw [hsv2rgb, hsv2rgb, hdom, hsv2rgbExact_congr hk ho hv]

theorem hsv2rgb_umod (h sat v : Byte) : hsv2rgb h sat v = hsv2rgb (h % 96) sat v := by
  have hmod : ((h % 96).toNat : Int) = (h.toNat : Int) % 96 := by
    rw [BitVec.toNat_umod]
    exact Int.natCast_emod _ _
  refine hsv2rgb_congr rfl ?_ ?_ rfl
  · rw [hmod, sextant_emod]
  · rw [hmod, segmentOffset_emod]

/-- Settles O24; 63 is 255 modulo 96. -/
theorem hueIsPeriodic : Obligations.HueIsPeriodic :=
  ⟨hsv2rgb_umod, fun sat v => hsv2rgb_umod 255 sat v⟩

/-- Settles O25: the mirrored byte has the same mirrored value and is in the domain as well. -/
theorem valueMirroringLaw : Obligations.ValueMirroringLaw := by
  intro h sat v h18 h34
  have hsub : (34 - v).toNat = 34 - v.toNat := BitVec.toNat_sub_of_le h34
  have hdom : inDomain sat v = inDomain sat (34 - v) := by
    rw [Bool.eq_iff_iff, inDomain_iff, inDomain_iff, hsub]
    omega
  have hcast : ((34 - v).toNat : Int) = 34 - (v.toNat : Int) := by omega
  refine hsv2rgb_congr hdom rfl rfl ?_
  rw [hcast, mirroredValue_mirror (by omega)]

theorem mirroredValue_natCast {v : Nat} (h : v ≤ 34) :
    mirroredValue v = ((if v > 17 then 34 - v else v : Nat) : Int) := by
  split_ifs with hv
  · rw [mirroredValue_of_lt (by omega)]
    omega
  · exact mirroredValue_of_le (by omega)

/-- Settles O26, by the path of saturation 0. -/
theorem grayscaleLaw : Obligations.GrayscaleLaw := by
  intro h v hv
  refine ⟨BitVec.ofInt 8 (peak (mirroredValue v.toNat)),
    hsv2rgb_eq_some_of_exact (sat := 0) (by decide) hv (hsv2rgbExact_saturation_zero _ _), ?_⟩
  have hm := mirroredValue_mem (value := v.toNat) (by omega) (by omega)
  have hpeak := peak_eq (mirroredValue v.toNat)
  have hbyte := toNat_ofInt_byte (x := peak (mirroredValue v.toNat)) (by omega)
  have hcast := mirroredValue_natCast hv
  omega

/-- Settles O27: the mirrored value of 0 and of 34 is 0. -/
theorem blackLaw : Obligations.BlackLaw := by
  intro h sat hsat
  have hblack : ∀ v : Byte, v.toNat ≤ 34 → mirroredValue v.toNat = 0 →
      hsv2rgb h sat v = some ⟨0, 0, 0⟩ := fun _ hv hm =>
    hsv2rgb_eq_some_of_exact hsat hv (hsv2rgbExact_of_mirroredValue_eq_zero _ _ hm)
  exact ⟨hblack 0 (by decide) (by decide), hblack 34 (by decide) (by decide)⟩

/-- At value 17 and saturation 15 low is 0 and high is 255, and at offset 0 the other two values are
low and high. -/
theorem mem_hsv2rgbExact_sextantStart {hue x : Int} (ho : segmentOffset hue = 0)
    (hx : x ∈ (hsv2rgbExact hue 15 17).toList) : x = 0 ∨ x = 255 := by
  have hlow : trough 15 (mirroredValue 17) = 0 := by decide
  have hhigh : peak (mirroredValue 17) = 255 := by decide
  have hmem := mem_hsv2rgbExact (by decide) (by decide) (by decide) hx
  rw [ho, risingChannel_zero, fallingChannel_zero, hlow, hhigh] at hmem
  tauto

/-- Settles O28: the six colours evaluated, and `mem_hsv2rgbExact_sextantStart`. -/
theorem noClippingAtSextantStarts : Obligations.NoClippingAtSextantStarts := by
  refine ⟨by decide, fun h h16 => ?_⟩
  have hbyte : ∀ x ∈ (hsv2rgbExact h.toNat 15 17).toList,
      BitVec.ofInt 8 x = 0 ∨ BitVec.ofInt 8 x = 255 := by
    intro x hx
    have ho : segmentOffset h.toNat = 0 := by
      simp only [segmentOffset, Config.hueSegment]
      omega
    rcases mem_hsv2rgbExact_sextantStart ho hx with rfl | rfl
    · exact .inl rfl
    · exact .inr rfl
  exact ⟨_, hsv2rgb_eq_some_of_exact (by decide) (by decide) rfl, hbyte _ (by simp),
    hbyte _ (by simp), hbyte _ (by simp)⟩

/-! ### The three bytes as natural numbers (40_convert.md R60 to R68) -/

/-- The channel assignment of R68, by the band of the reduced hue. -/
def bandTriple (hue high low rising falling : Nat) : Nat × Nat × Nat :=
  if hue % 96 < 16 then (high, rising, low)
  else if hue % 96 < 32 then (falling, high, low)
  else if hue % 96 < 48 then (low, high, rising)
  else if hue % 96 < 64 then (low, falling, high)
  else if hue % 96 < 80 then (rising, low, high)
  else (high, low, falling)

theorem assignChannels_natCast (hue high low rising falling : Nat) :
    assignChannels (sextant hue) high low rising falling =
      ⟨(bandTriple hue high low rising falling).1, (bandTriple hue high low rising falling).2.1,
        (bandTriple hue high low rising falling).2.2⟩ := by
  have hk : sextant hue = ((hue % 96 / 16 : Nat) : Int) := by
    simp [sextant, Config.hueFull, Config.hueSegment]
  unfold assignChannels bandTriple
  split_ifs
  any_goals omega
  all_goals rfl

theorem peak_natCast (v : Nat) : peak v = ((v * 15 : Nat) : Int) := by
  rw [peak_eq]; omega

theorem trough_natCast {sat : Nat} (v : Nat) (h : sat ≤ 15) :
    trough sat v = ((v * (15 - sat) : Nat) : Int) := by
  rw [Nat.cast_mul, Nat.cast_sub h]
  rfl

theorem segmentOffset_natCast (hue : Nat) : segmentOffset hue = ((hue % 16 : Nat) : Int) := rfl

theorem delta_natCast (sat v offset : Nat) :
    delta sat v offset = ((sat * v * offset / 16 : Nat) : Int) := by
  simp [delta, Config.hueSegment]

theorem risingChannel_natCast {sat : Nat} (v offset : Nat) (h : sat ≤ 15) :
    risingChannel sat v offset =
      ((if offset > 0 then v * (15 - sat) + sat * v * offset / 16 else v * (15 - sat) : Nat) :
        Int) := by
  rw [risingChannel, trough_natCast v h, delta_natCast]
  split_ifs <;> omega

/-- The subtraction of R65 does not go below 0: `delta + 1` is at most high. -/
theorem fallingChannel_natCast {sat v offset : Nat} (hsat : 1 ≤ sat) (hsat15 : sat ≤ 15)
    (hv : 1 ≤ v) (ho : offset ≤ 15) :
    fallingChannel sat v offset =
      ((if offset > 0 then v * 15 - (sat * v * offset / 16 + 1) else v * 15 : Nat) : Int) := by
  have hlow := trough_nonneg (sat := sat) (v := v) (by omega) (by omega)
  have hfalling := (fallingChannel_mem (sat := sat) (v := v) (offset := offset) (by omega)
    (by omega) (by omega) (by omega)).1
  rw [fallingChannel, peak_natCast, delta_natCast] at *
  split_ifs at * <;> omega

/-- Settles O21: the exact channels are those of R60 to R68 in natural numbers. -/
theorem converterComputesTheChannels : Obligations.ConverterComputesTheChannels := by
  intro h sat v hsat hsat15 hv hv33 v' high low offset delta rising falling
  have hm : mirroredValue v.toNat = (v' : Int) := mirroredValue_natCast (by omega)
  have hv' : 1 ≤ v' := by
    have := mirroredValue_pos (value := v.toNat) (by omega) (by omega)
    omega
  have hexact : hsv2rgbExact h.toNat sat.toNat v.toNat =
      assignChannels (sextant h.toNat) high low rising falling := by
    rw [hsv2rgbExact_of_pos _ (by omega) (by omega), hm, peak_natCast, trough_natCast v' hsat15,
      segmentOffset_natCast, risingChannel_natCast v' offset hsat15,
      fallingChannel_natCast hsat hsat15 hv' (by omega)]
  obtain ⟨c, hc, hred, hgreen, hblue⟩ := hsv2rgb_bytes h hsat15 (show v.toNat ≤ 34 by omega)
  rw [hexact, assignChannels_natCast] at hred hgreen hblue
  refine ⟨c, hc, ?_⟩
  exact Prod.ext (Int.ofNat_inj.mp hred)
    (Prod.ext (Int.ofNat_inj.mp hgreen) (Int.ofNat_inj.mp hblue))


/-! ### Neighbouring hues (40_convert.md R79) -/

/-- One more unit of offset moves `delta` up by at most 16, as the product is below 16 * 16. -/
theorem delta_succ_mem {sat v offset : Int} (h : 0 ≤ sat * v ∧ sat * v ≤ 255) :
    delta sat v offset ≤ delta sat v (offset + 1) ∧
      delta sat v (offset + 1) ≤ delta sat v offset + 16 := by
  have hsucc : sat * v * (offset + 1) = sat * v * offset + sat * v := by ring
  simp only [delta, Config.hueSegment, hsucc]
  omega

def Channels.Near (c d : Channels) : Prop :=
  (c.red - d.red).natAbs ≤ 16 ∧ (c.green - d.green).natAbs ≤ 16 ∧ (c.blue - d.blue).natAbs ≤ 16

theorem Channels.near_self (c : Channels) : c.Near c := by
  simp [Channels.Near]

/-- Inside a band the rising and the falling channel alone move. -/
theorem assignChannels_near (k high low : Int) {r r' f f' : Int} (hr : (r - r').natAbs ≤ 16)
    (hf : (f - f').natAbs ≤ 16) :
    (assignChannels k high low r f).Near (assignChannels k high low r' f') := by
  unfold assignChannels
  split_ifs <;> simp [Channels.Near, hr, hf]

/-- From a band to the next one the rising channel becomes high and the falling one low. -/
theorem assignChannels_near_next {k high low r f : Int} (hk : 0 ≤ k ∧ k ≤ 5)
    (hr : (r - high).natAbs ≤ 16) (hf : (f - low).natAbs ≤ 16) :
    (assignChannels k high low r f).Near (assignChannels ((k + 1) % 6) high low low high) := by
  obtain ⟨hk0, hk5⟩ := hk
  interval_cases k <;> simp [assignChannels, Channels.Near, hr, hf]

theorem rising_falling_succ_near {sat v offset : Int} (h : 0 ≤ sat * v ∧ sat * v ≤ 255)
    (ho : 0 ≤ offset) :
    (risingChannel sat v offset - risingChannel sat v (offset + 1)).natAbs ≤ 16 ∧
      (fallingChannel sat v offset - fallingChannel sat v (offset + 1)).natAbs ≤ 16 := by
  have hdelta := delta_succ_mem (offset := offset) h
  rw [risingChannel_eq sat v ho, risingChannel_eq sat v (by omega),
    fallingChannel_of_pos sat v (show 0 < offset + 1 by omega)]
  refine ⟨by omega, ?_⟩
  rcases Int.lt_or_eq_of_le ho with hpos | rfl
  · rw [fallingChannel_of_pos sat v hpos]
    omega
  · rw [fallingChannel_zero, Int.zero_add, delta, Config.hueSegment]
    omega

/-- At the last offset of a band rising is near high, and falling near low. -/
theorem rising_falling_last_near {sat v : Int} (h : 1 ≤ sat * v ∧ sat * v ≤ 255) :
    (risingChannel sat v 15 - peak v).natAbs ≤ 16 ∧
      (fallingChannel sat v 15 - trough sat v).natAbs ≤ 16 := by
  rw [risingChannel_eq sat v (by decide), fallingChannel_of_pos sat v (by decide), peak_eq,
    trough_eq, delta, Config.hueSegment]
  omega

theorem hsv2rgbExact_near_next {hue hue' sat value : Int} (hsat : 0 ≤ sat ∧ sat ≤ 15)
    (hvalue : 0 ≤ value ∧ value ≤ 34) (hhue : hue' = (hue + 1) % 96) :
    (hsv2rgbExact hue sat value).Near (hsv2rgbExact hue' sat value) := by
  rcases hsv2rgbExact_paths hsat.1 hvalue.1 hvalue.2 with hv0 | rfl | ⟨hsat1, hv1⟩
  · simp only [hsv2rgbExact_of_mirroredValue_eq_zero _ _ hv0, Channels.near_self]
  · simp only [hsv2rgbExact_saturation_zero, Channels.near_self]
  · have hv := mirroredValue_mem hvalue.1 hvalue.2
    have hprod : 1 ≤ sat * mirroredValue value ∧ sat * mirroredValue value ≤ 15 * 17 :=
      ⟨Int.mul_pos hsat1 hv1, (mul_mem_of_le hsat.1 hsat.2 hv.1 hv.2).2⟩
    have hsplit := emod_eq_sextant_add_offset hue
    have hk := sextant_mem hue
    obtain ⟨ho0, ho15⟩ := segmentOffset_mem hue
    rw [hsv2rgbExact_of_pos hue hsat1 hv1, hsv2rgbExact_of_pos hue' hsat1 hv1]
    rcases Int.lt_or_eq_of_le ho15 with hlt | hlast
    · obtain ⟨hk', ho'⟩ := sextant_segmentOffset_of_emod (hue := hue') (k := sextant hue)
        (o := segmentOffset hue + 1) (by omega) (by omega) (by omega)
      obtain ⟨hr, hf⟩ := rising_falling_succ_near (sat := sat) (v := mirroredValue value)
        (by omega) ho0
      rw [hk', ho']
      exact assignChannels_near _ _ _ hr hf
    · obtain ⟨hk', ho'⟩ := sextant_segmentOffset_of_emod (hue := hue')
        (k := (sextant hue + 1) % 6) (o := 0) (by omega) (by decide) (by decide)
      obtain ⟨hr, hf⟩ := rising_falling_last_near hprod
      rw [hk', ho', hlast, risingChannel_zero, fallingChannel_zero]
      exact assignChannels_near_next hk hr hf

theorem hsv2rgb_ofNat_bytes {hue sat v : Nat} (hhue : hue < 256) (hsat : sat ≤ 15) (hv : v ≤ 34) :
    ∃ c, hsv2rgb (BitVec.ofNat 8 hue) (BitVec.ofNat 8 sat) (BitVec.ofNat 8 v) = some c ∧
      (hsv2rgbExact hue sat v).Bytes c := by
  have hbyte : ∀ n < 256, (BitVec.ofNat 8 n).toNat = n := fun n hn => Nat.mod_eq_of_lt hn
  have hsatb := hbyte sat (by omega)
  have hvb := hbyte v (by omega)
  simpa only [hbyte hue hhue, hsatb, hvb] using
    hsv2rgb_bytes (BitVec.ofNat 8 hue) (hsatb.trans_le hsat) (hvb.trans_le hv)

/-- Settles O29: the exact channels of neighbouring hues are near, and the bytes are those
channels. -/
theorem hueContinuityBoundIsSixteen : Obligations.HueContinuityBoundIsSixteen := by
  refine ⟨fun hr sat v hhr hsat hv => ?_, by decide, by decide⟩
  have hnear : (hsv2rgbExact hr sat v).Near (hsv2rgbExact ((hr + 1) % 96 : Nat) sat v) :=
    hsv2rgbExact_near_next (by omega) (by omega) (by omega)
  obtain ⟨c, hc, hc0, hc1, hc2⟩ := hsv2rgb_ofNat_bytes (show hr < 256 by omega) hsat hv
  obtain ⟨d, hd, hd0, hd1, hd2⟩ :=
    hsv2rgb_ofNat_bytes (show (hr + 1) % 96 < 256 by omega) hsat hv
  refine ⟨c, d, hc, hd, ?_⟩
  rw [hc0, hc1, hc2, hd0, hd1, hd2]
  exact hnear

/-! ### CONVERT as a whole (40_convert.md R70, R73) -/

theorem exec_convert_of_some {h sat v : Byte} {c : Rgb} (s : State)
    (hc : hsv2rgb h sat v = some c) : exec (.convert h sat v) s = .next (s.returnColor c) := by
  rw [exec, execConvert, convertColor_of_some s hc]

theorem exec_convert_of_none {h sat v : Byte} (s : State) (hn : hsv2rgb h sat v = none) :
    exec (.convert h sat v) s =
      .next (s.nextDraw.returnColor (Triple.unpack24 (Config.anyU24 s.draws))) := by
  rw [exec, execConvert, convertColor_of_none s hn]

/-- Settles O19: the conversion is specified and takes no draw. -/
theorem convertReturnsTheColor : Obligations.ConvertReturnsTheColor := by
  intro s h sat v hsat hv
  have hc := hsv2rgb_of_inDomain h ((inDomain_iff sat v).mpr ⟨hsat, hv⟩)
  exact ⟨_, hc, exec_convert_of_some s hc⟩

/-- Settles O20: the conversion is unspecified and takes one draw. -/
theorem convertOutsideDomainDraws : Obligations.ConvertOutsideDomainDraws := by
  intro s h sat v hout
  have hdom : inDomain sat v = false := by
    rw [Bool.eq_false_iff, ne_eq, inDomain_iff]
    omega
  rw [exec_convert_of_none s (hsv2rgb_of_not_inDomain h hdom), State.returnColor,
    Triple.pack24_unpack24]
  rfl

/-! ### The draws of a step and of a run (93 U1, 40_convert.md R73) -/

@[simp] theorem fillAdvance_draws (s : State) : (fillAdvance s).draws = s.draws := by
  rcases fillAdvance_cases s with ⟨-, e⟩ | ⟨-, e⟩ <;> simp [e]

@[simp] theorem fillAdvance_buf (s : State) : (fillAdvance s).buf = s.buf := by
  rcases fillAdvance_cases s with ⟨-, e⟩ | ⟨-, e⟩ <;> simp [e]

@[simp] theorem acceptFill_draws (op : Opcode) (si : Index) (sc : Triple) (ei : Index)
    (ec : Triple) (s : State) : (acceptFill op si sc ei ec s).draws = s.draws := by
  rcases acceptFill_cases op si sc ei ec s with ⟨-, e⟩ | ⟨-, e⟩ <;> simp [e]

theorem Latch.converts_iff {l : Latch} : l.converts = true ↔ l.op = 0x03 := by
  rw [Latch.converts, beq_iff_eq]
  rfl

/-- The next step stores a pixel of the fill whose conversion is unspecified. -/
theorem State.fillStepDraws_iff {s : State} : s.fillStepDraws ↔
    s.filling ∧ s.latch.converts = true ∧ s.latch.index s.stepCtr.toNat < s.bufLen ∧
      hsv2rgb (fillComponents s.latch s.stepCtr.toNat).c0
        (fillComponents s.latch s.stepCtr.toNat).c1
        (fillComponents s.latch s.stepCtr.toNat).c2 = none := by
  rw [State.fillStepDraws, Latch.converts_iff, fillComponents_eq_gradientAt]
  rfl

theorem fillPixel_of_fillStepDraws {s : State} (h : s.fillStepDraws) :
    fillPixel s.latch s.stepCtr.toNat s =
      (Triple.unpack24 (Config.anyU24 s.draws), s.nextDraw) := by
  obtain ⟨-, hconv, -, hnone⟩ := State.fillStepDraws_iff.mp h
  rw [fillPixel, if_pos hconv, convertColor_of_none s hnone]

theorem step_of_fillStepDraws {s : State} (h : s.fillStepDraws) :
    step s = .next (fillAdvance (s.nextDraw.store (s.latch.index s.stepCtr.toNat)
      (Triple.unpack24 (Config.anyU24 s.draws)))) := by
  obtain ⟨hfilling, -, hlt, -⟩ := State.fillStepDraws_iff.mp h
  rw [step_of_filling hfilling, fillStep_of_lt hlt, fillPixel_of_fillStepDraws h]

theorem step_of_convertDraws {s : State} (h : s.convertDraws) :
    step s = .next
      (s.consume.nextDraw.returnColor (Triple.unpack24 (Config.anyU24 s.draws))) := by
  obtain ⟨hs, w, hue, sat, v, hp, hd, hnone⟩ := h
  exact (step_of_ready_of_decode_ok hs hp hd).trans (exec_convert_of_none s.consume hnone)

theorem fillStep_draws {s : State} (hs : s.filling) (h : ¬ s.fillStepDraws) :
    (fillStep s).draws = s.draws := by
  rcases fillStep_cases s with ⟨hlt, e⟩ | ⟨-, e⟩
  · rcases fillPixel_cases s.latch s.stepCtr.toNat s with ⟨-, hp⟩ | ⟨-, _, -, hp⟩ |
      ⟨hconv, hnone, -⟩
    · simp [e, hp]
    · simp [e, hp]
    · exact absurd (State.fillStepDraws_iff.mpr ⟨hs, hconv, hlt, hnone⟩) h
  · simp [e]

theorem exec_draws {i : Instr} {s t : State} (he : exec i s = .next t)
    (h : ∀ hue sat v, i = .convert hue sat v → hsv2rgb hue sat v ≠ none) :
    t.draws = s.draws := by
  rcases exec_cases i s with ⟨hue, sat, v, hi, e⟩ | ⟨k, c, -, -, e⟩ | ⟨k, c, -, -, e⟩ |
      ⟨si, sc, ei, ec, -, e⟩ | ⟨si, sc, ei, ec, -, e⟩ <;>
    obtain rfl := Host.Outcome.next.inj (e.symm.trans he)
  · obtain ⟨c, hc⟩ := Option.ne_none_iff_exists'.mp (h hue sat v hi)
    simp [convertColor_of_some s hc]
  all_goals simp

/-- No step but the three that write a free value moves the counter (by the cases of 70 R137). -/
theorem step_draws {s t : State} (hstep : step s = .next t) (hr : s.resetIn = false)
    (hc : ¬ s.convertDraws) (hf : ¬ s.fillStepDraws) : t.draws = s.draws := by
  rcases step_next_cases hstep with ⟨hr', -⟩ | ⟨hs, rfl⟩ | ⟨-, -, rfl⟩ |
      ⟨hs, w, i, hp, hd, he⟩ | ⟨-, w, e, -, -, rfl⟩
  · exact absurd (hr.symm.trans hr') (by decide)
  · exact fillStep_draws hs hf
  · rfl
  · refine (exec_draws he fun hue sat v hi hnone => hc ?_).trans (State.consume_draws s)
    exact ⟨hs, w, hue, sat, v, hp, hi ▸ hd, hnone⟩
  · simp

/-- A step that writes a free value advances the counter by one. -/
theorem step_draws_of_draws {s t : State} (hstep : step s = .next t)
    (h : s.resetIn = true ∨ s.convertDraws ∨ s.fillStepDraws) : t.draws = s.draws + 1 := by
  rcases h with hr | hc | hf
  · obtain rfl := Host.Outcome.next.inj ((step_of_resetIn hr).symm.trans hstep)
    rfl
  · obtain rfl := Host.Outcome.next.inj ((step_of_convertDraws hc).symm.trans hstep)
    rfl
  · obtain rfl := Host.Outcome.next.inj ((step_of_fillStepDraws hf).symm.trans hstep)
    simp

theorem step_draws_le {s t : State} (hstep : step s = .next t) : s.draws ≤ t.draws := by
  by_cases h : s.resetIn = true ∨ s.convertDraws ∨ s.fillStepDraws
  · exact (step_draws_of_draws hstep h).symm ▸ Nat.le_succ _
  · obtain ⟨hr, hc, hf⟩ : s.resetIn ≠ true ∧ ¬ s.convertDraws ∧ ¬ s.fillStepDraws := by tauto
    exact (step_draws hstep (Bool.eq_false_iff.mpr hr) hc hf).ge

theorem exists_step_of_runCore_succ {s u : State} {n : Nat} (h : runCore (n + 1) s = .next u) :
    ∃ t, step s = .next t ∧ runCore n t = .next u := by
  rcases step_stuck_or_keepsOrStores s with ⟨hr, hf⟩ | hk
  · rw [runCore_succ_of_fault n (step_of_faulted hr hf)] at h
    cases h
  · obtain ⟨t, ht⟩ := hk.exists_next
    exact ⟨t, ht, (runCore_succ_of_next n ht).symm.trans h⟩

theorem runCore_draws_le {n : Nat} {s u : State} (h : runCore n s = .next u) :
    s.draws ≤ u.draws := by
  induction n generalizing s with
  | zero =>
    obtain rfl := Host.Outcome.next.inj h
    exact Nat.le_refl _
  | succ n ih =>
    obtain ⟨t, ht, hrun⟩ := exists_step_of_runCore_succ h
    exact (step_draws_le ht).trans (ih hrun)

/-- Settles O57: each use takes the counter's number and advances it, and no run takes it back. -/
theorem eachDrawIsASeparateOne : Obligations.EachDrawIsASeparateOne := by
  refine ⟨fun s t hstep => ⟨fun hr => ?_, fun hc => ?_, fun hf => ?_, step_draws hstep⟩,
    fun s t u n h hstep hrun => ?_⟩
  · obtain rfl := Host.Outcome.next.inj ((step_of_resetIn hr).symm.trans hstep)
    exact ⟨rfl, rfl, rfl, rfl⟩
  · refine ⟨step_draws_of_draws hstep (.inr (.inl hc)), ?_⟩
    obtain rfl := Host.Outcome.next.inj ((step_of_convertDraws hc).symm.trans hstep)
    rw [State.returnColor_result, Triple.pack24_unpack24, resultWord]
  · refine ⟨step_draws_of_draws hstep (.inr (.inr hf)), _, Triple.pack24_unpack24 _, ?_⟩
    obtain rfl := Host.Outcome.next.inj ((step_of_fillStepDraws hf).symm.trans hstep)
    simp [Latch.index]
  · have hnext := step_draws_of_draws hstep h
    have hle := runCore_draws_le hrun
    omega

end Sys2Proof.Machine

namespace Sys2Proof.Machine

/-! ### The checked store and WRPIX (41_write_pixel.md R81, R82) -/

/-- The spelling of the statements, which name the element that is read first. -/
theorem State.read_store_buf (s : State) (k j : Nat) (c : Rgb) :
    (s.store k c).buf.read j = if j = k then some c else s.buf.read j := by
  simp only [State.store_buf, Memory.read_write, eq_comm]

/-- A 16-bit index reaches FIDX unchanged (60_exceptions.md R106, R108). -/
theorem State.raise_boundsFault_toNat (s : State) (k : Index) :
    s.raise (.boundsFault k.toNat) =
      { s with status := ⟨false, true, s.status.rvalid, 3, k⟩ } := by
  rw [State.raise, Status.faulted, FaultCause.code_boundsFault, FaultCause.fidx_boundsFault,
    BitVec.ofNat_toNat, BitVec.setWidth_eq]

theorem exec_wrpix (k : Index) (c : Rgb) (s : State) : exec (.wrpix k c) s = execWrpix k c s := rfl

/-- Settles O31: below BUF_LEN the outcome is the store, elsewhere it is the fault. -/
theorem writePixelChecksEveryStore : Obligations.WritePixelChecksEveryStore := by
  refine fun idx c s _ => ⟨fun hlt => ?_, writePixel_of_le c⟩
  exact ⟨s.store idx c, writePixel_of_lt c hlt, Memory.read_write_same s.buf idx c,
    fun k hk => Memory.read_write_other s.buf c hk.symm, rfl⟩

/-- Settles O32: the step is one store, whose reads `State.read_store_buf` gives. -/
theorem wrpixStoresOneElement : Obligations.WrpixStoresOneElement := by
  intro s k c hlt
  exact ⟨s.store k.toNat c, (exec_wrpix k c s).trans (execWrpix_of_lt c hlt),
    fun j => s.read_store_buf k.toNat j c, rfl⟩

/-- Settles O33: the refused store leaves the state as it was, and the fault entry writes STATUS
alone. -/
theorem wrpixOutOfBoundsFaults : Obligations.WrpixOutOfBoundsFaults := by
  intro s k c hle
  rw [exec_wrpix, execWrpix_of_le c hle, s.raise_boundsFault_toNat k]

end Sys2Proof.Machine

namespace Sys2Proof.Machine

/-! ### Interpolation (42_gradient.md R86 to R88) -/

/-- Between rising components the truncating division is the division of naturals. -/
theorem interpExact_of_le {a b : Nat} (i gap : Nat) (h : a ≤ b) :
    interpExact a b i gap = ((a + (b - a) * i / gap : Nat) : Int) := by
  rw [interpExact, ← Nat.cast_sub h, ← Nat.cast_mul, ← Int.ofNat_tdiv, ← Nat.cast_add]

/-- Between falling components the quotient is that of the reversed difference, taken away. -/
theorem interpExact_of_ge {a b : Nat} (i gap : Nat) (h : b ≤ a) :
    interpExact a b i gap = (a : Int) - ((a - b) * i / gap : Nat) := by
  rw [interpExact, ← neg_sub (a : Int) b, ← Nat.cast_sub h, Int.neg_mul, ← Nat.cast_mul,
    Int.neg_tdiv, ← Int.ofNat_tdiv, ← Int.sub_eq_add_neg]

theorem mul_div_le_of_le {d i gap : Nat} (h : i ≤ gap) : d * i / gap ≤ d :=
  Nat.div_le_of_le_mul (Nat.mul_comm gap d ▸ Nat.mul_le_mul_left d h)

/-- The exact result is between the two components (R88(c)). -/
theorem interpExact_between (a b : Nat) {i gap : Nat} (h : i ≤ gap) :
    ((min a b : Nat) : Int) ≤ interpExact a b i gap ∧
      interpExact a b i gap ≤ ((max a b : Nat) : Int) := by
  rcases Nat.le_total a b with hab | hab
  · have hq := mul_div_le_of_le (d := b - a) h
    rw [interpExact_of_le i gap hab]
    generalize (b - a) * i / gap = q at hq
    omega
  · have hq := mul_div_le_of_le (d := a - b) h
    rw [interpExact_of_ge i gap hab]
    generalize (a - b) * i / gap = q at hq
    omega

theorem interpExact_mem (a b : Byte) {i gap : Nat} (h : i ≤ gap) :
    0 ≤ interpExact a.toNat b.toNat i gap ∧ interpExact a.toNat b.toNat i gap ≤ 255 := by
  have hbetween := interpExact_between a.toNat b.toNat h
  omega

theorem toNat_interp (a b : Byte) {i gap : Nat} (h : i ≤ gap) :
    ((interp a b i gap).toNat : Int) = interpExact a.toNat b.toNat i gap :=
  toNat_ofInt_byte (interpExact_mem a b h)

theorem toNat_interp_of_le {a b : Byte} {i gap : Nat} (h : i ≤ gap) (hab : a.toNat ≤ b.toNat) :
    (interp a b i gap).toNat = a.toNat + (b.toNat - a.toNat) * i / gap :=
  Int.ofNat_inj.mp ((toNat_interp a b h).trans (interpExact_of_le i gap hab))

theorem toNat_interp_of_ge {a b : Byte} {i gap : Nat} (h : i ≤ gap) (hab : b.toNat ≤ a.toNat) :
    (interp a b i gap).toNat = a.toNat - (a.toNat - b.toNat) * i / gap := by
  have hexact := (toNat_interp a b h).trans (interpExact_of_ge i gap hab)
  omega

@[simp] theorem interp_start (a b : Byte) (gap : Int) : interp a b 0 gap = a := by
  simp [interp, interpExact]

theorem interp_end (a b : Byte) {gap : Nat} (h : 1 ≤ gap) : interp a b gap gap = b := by
  have hexact : interpExact a.toNat b.toNat gap gap = b.toNat := by
    rw [interpExact, Int.mul_tdiv_cancel _ (by omega)]
    omega
  rw [interp, hexact, BitVec.ofInt_natCast, BitVec.ofNat_toNat, BitVec.setWidth_eq]

@[simp] theorem interp_self (a : Byte) (i : Nat) (gap : Int) : interp a a i gap = a := by
  simp [interp, interpExact]

theorem interp_between (a b : Byte) {i gap : Nat} (h : i ≤ gap) :
    min a.toNat b.toNat ≤ (interp a b i gap).toNat ∧
      (interp a b i gap).toNat ≤ max a.toNat b.toNat := by
  rw [← Int.ofNat_le, ← Int.ofNat_le, toNat_interp a b h]
  exact interpExact_between a.toNat b.toNat h

theorem interp_mono {a b : Byte} {i j gap : Nat} (hij : i ≤ j) (hj : j ≤ gap)
    (hab : a.toNat ≤ b.toNat) : (interp a b i gap).toNat ≤ (interp a b j gap).toNat := by
  rw [toNat_interp_of_le (hij.trans hj) hab, toNat_interp_of_le hj hab]
  gcongr

theorem interp_antitone {a b : Byte} {i j gap : Nat} (hij : i ≤ j) (hj : j ≤ gap)
    (hab : b.toNat ≤ a.toNat) : (interp a b j gap).toNat ≤ (interp a b i gap).toNat := by
  rw [toNat_interp_of_ge (hij.trans hj) hab, toNat_interp_of_ge hj hab]
  gcongr

/-- Settles O34, law by law; the asymmetry of (f) is evaluated. -/
theorem interpolationLaws : Obligations.InterpolationLaws := by
  refine ⟨fun a b gap hgap _ => ⟨interp_start a b gap, interp_end a b hgap, fun i hi => ?_⟩,
    by decide⟩
  obtain ⟨hmin, hmax⟩ := interp_between a b hi
  exact ⟨hmin, hmax, fun j hij hj => ⟨interp_mono hij hj, interp_antitone hij hj⟩,
    interp_self a i gap⟩

/-- Settles O35: the quotient is at most the difference in absolute value, because the iteration is
at most the gap. -/
theorem interpolationIsExact : Obligations.InterpolationIsExact := by
  intro a b gap i _ hgap hi d p q
  have hd : d.natAbs ≤ 255 := by omega
  have hp : p.natAbs = d.natAbs * i := by rw [Int.natAbs_mul, Int.natAbs_natCast]
  have hq : q.natAbs = d.natAbs * i / gap := (Int.natAbs_tdiv p gap).trans (hp ▸ rfl)
  obtain ⟨h0, h255⟩ := interpExact_mem a b hi
  exact ⟨toNat_interp a b hi, hd, hp ▸ Nat.mul_le_mul hd (hi.trans hgap),
    hq ▸ mul_div_le_of_le hi, h0, h255⟩

/-! ### The gradient of a fill (42_gradient.md R88, R93, R101) -/

theorem gradientAt_of_lt {si ei : Index} (sc ec : Triple) (k : Nat) (h : si.toNat < ei.toNat) :
    gradientAt si sc ei ec k =
      ⟨interp sc.c0 ec.c0 (k - si.toNat) ((ei.toNat - si.toNat : Nat) : Int),
       interp sc.c1 ec.c1 (k - si.toNat) ((ei.toNat - si.toNat : Nat) : Int),
       interp sc.c2 ec.c2 (k - si.toNat) ((ei.toNat - si.toNat : Nat) : Int)⟩ := by
  have hne : si ≠ ei := fun e => Nat.lt_irrefl _ (e ▸ h)
  rw [gradientAt, if_neg hne, Nat.cast_sub h.le]

@[simp] theorem gradientAt_equalIndices (si : Index) (sc ec : Triple) (k : Nat) :
    gradientAt si sc si ec k = sc := if_pos rfl

@[simp] theorem gradientAt_start (si ei : Index) (sc ec : Triple) :
    gradientAt si sc ei ec si.toNat = sc := by
  simp [gradientAt]

theorem gradientAt_end {si ei : Index} (sc ec : Triple) (h : si.toNat < ei.toNat) :
    gradientAt si sc ei ec ei.toNat = ec := by
  have hgap : 1 ≤ ei.toNat - si.toNat := by omega
  simp only [gradientAt_of_lt sc ec _ h, interp_end _ _ hgap]

@[simp] theorem gradientAt_equalColors (si ei : Index) (x : Triple) (k : Nat) :
    gradientAt si x ei x k = x := by
  simp [gradientAt]

/-- The components of the gradient are between those of the end colours, so between two colours of
the documented domain it stays in the domain (R99). -/
theorem inDomain_gradientAt {si ei : Index} {sc ec : Hsv} {k : Nat} (hk : k ≤ ei.toNat)
    (hsc : inDomain sc.c1 sc.c2 = true) (hec : inDomain ec.c1 ec.c2 = true)
    (hle : si.toNat ≤ ei.toNat) :
    inDomain (gradientAt si sc ei ec k).c1 (gradientAt si sc ei ec k).c2 = true := by
  rcases hle.eq_or_lt with heq | hlt
  · obtain rfl := BitVec.eq_of_toNat_eq heq
    rwa [gradientAt_equalIndices]
  · rw [inDomain_iff] at hsc hec
    have hi : k - si.toNat ≤ ei.toNat - si.toNat := Nat.sub_le_sub_right hk _
    have ⟨_, hsat⟩ := interp_between sc.c1 ec.c1 hi
    have ⟨_, hval⟩ := interp_between sc.c2 ec.c2 hi
    rw [gradientAt_of_lt sc ec k hlt, inDomain_iff]
    exact ⟨hsat.trans (max_le hsc.1 hec.1), hval.trans (max_le hsc.2 hec.2)⟩

end Sys2Proof.Machine

namespace Sys2Proof.Machine

/-! ### The store of a fill step and what the step leaves unchanged (42_gradient.md R90) -/

/-- An iteration of a fill whose index is inside the buffer: its pixel, stored. -/
def storePixel (l : Latch) (i : Nat) (s : State) : State :=
  (fillPixel l i s).2.store (l.index i) (fillPixel l i s).1

theorem storePixel_eq (l : Latch) (i : Nat) (s : State) :
    storePixel l i s =
      { s with
        buf := s.buf.write (l.index i) (fillPixel l i s).1
        draws := (fillPixel l i s).2.draws } := by
  rcases fillPixel_state l i s with h | h <;> rw [storePixel, h] <;> rfl

theorem read_storePixel (l : Latch) (i : Nat) (s : State) (k : Nat) :
    (storePixel l i s).buf.read k =
      if k = l.index i then some (fillPixel l i s).1 else s.buf.read k := by
  rw [storePixel, State.read_store_buf, fillPixel_buf]

theorem fillStore_of_lt {l : Latch} {i : Nat} {s : State} (h : l.index i < s.bufLen) :
    fillStore l i s = .ok (storePixel l i s) :=
  writePixel_of_lt _ (by rwa [fillPixel_bufLen])

theorem step_of_filling_of_lt {s : State} (hs : s.filling)
    (h : s.latch.index s.stepCtr.toNat < s.bufLen) :
    step s = .next (fillAdvance (storePixel s.latch s.stepCtr.toNat s)) :=
  (step_of_filling hs).trans (congrArg _ (fillStep_of_lt h))

theorem step_of_filling_of_le {s : State} (hs : s.filling)
    (h : s.bufLen ≤ s.latch.index s.stepCtr.toNat) :
    step s = .next (s.raise (.boundsFault (s.latch.index s.stepCtr.toNat))) :=
  (step_of_filling hs).trans (congrArg _ (fillStep_of_le h))

theorem stepCtr_eq_gap_iff {s : State} :
    (s.stepCtr.toNat : Int) = s.latch.gap ↔ s.latch.index s.stepCtr.toNat = s.latch.ei.toNat := by
  rw [Latch.gap, Latch.index]
  omega

theorem fillAdvance_of_last {s : State}
    (h : s.latch.index s.stepCtr.toNat = s.latch.ei.toNat) : fillAdvance s = s.endFill :=
  if_pos (stepCtr_eq_gap_iff.mpr h)

theorem fillAdvance_of_ne_last {s : State}
    (h : s.latch.index s.stepCtr.toNat ≠ s.latch.ei.toNat) : fillAdvance s = s.nextIteration :=
  if_neg (stepCtr_eq_gap_iff.not.mpr h)

/-- A fill step writes no latch, no RESULT, no RVALID, and touches no input. -/
theorem fillStep_frame (s : State) :
    ∃ m n st d, fillStep s = { s with buf := m, stepCtr := n, status := st, draws := d } ∧
      st.rvalid = s.status.rvalid := by
  rcases fillStep_cases s with ⟨-, e⟩ | ⟨-, e⟩ <;> rw [e]
  · rw [← storePixel, storePixel_eq]
    rcases fillAdvance_cases _ with ⟨-, ea⟩ | ⟨-, ea⟩ <;> rw [ea] <;> exact ⟨_, _, _, _, rfl, rfl⟩
  · exact ⟨_, _, _, _, rfl, rfl⟩

/-- The acceptance of a fill writes LATCH, STEP and STATUS alone, and not RVALID. -/
theorem acceptFill_frame (op : Opcode) (si : Index) (sc : Triple) (ei : Index) (ec : Triple)
    (s : State) :
    ∃ l n st, acceptFill op si sc ei ec s = { s with latch := l, stepCtr := n, status := st } ∧
      st.rvalid = s.status.rvalid := by
  rcases acceptFill_cases op si sc ei ec s with ⟨-, e⟩ | ⟨-, e⟩ <;> rw [e] <;>
    exact ⟨_, _, _, rfl, rfl⟩

/-! ### What leaves RESULT and RVALID as they are (42_gradient.md R102) -/

/-- RESULT and RVALID of `t` are those of `s`. -/
def SameResult (s t : State) : Prop :=
  t.result = s.result ∧ t.status.rvalid = s.status.rvalid

theorem SameResult.trans {s t u : State} (h : SameResult s t) (h' : SameResult t u) :
    SameResult s u :=
  ⟨h'.1.trans h.1, h'.2.trans h.2⟩

theorem fillStep_sameResult (s : State) : SameResult s (fillStep s) := by
  obtain ⟨m, n, st, d, e, hst⟩ := fillStep_frame s
  exact e ▸ ⟨rfl, hst⟩

theorem acceptFill_sameResult (op : Opcode) (si : Index) (sc : Triple) (ei : Index) (ec : Triple)
    (s : State) : SameResult s (acceptFill op si sc ei ec s) := by
  obtain ⟨l, n, st, e, hst⟩ := acceptFill_frame op si sc ei ec s
  exact e ▸ ⟨rfl, hst⟩

/-- Of the commands only CONVERT writes RESULT and RVALID, and it sets RVALID. -/
theorem exec_convert_or_sameResult {i : Instr} {s t : State} (h : exec i s = .next t) :
    (∃ hue sat v, i = .convert hue sat v ∧ t.status.rvalid = true) ∨ SameResult s t := by
  rcases exec_cases i s with ⟨hue, sat, v, hi, e⟩ | ⟨k, c, -, -, e⟩ | ⟨k, c, -, -, e⟩ |
      ⟨si, sc, ei, ec, -, e⟩ | ⟨si, sc, ei, ec, -, e⟩ <;>
    obtain rfl := Host.Outcome.next.inj (e.symm.trans h)
  · exact .inl ⟨hue, sat, v, hi, rfl⟩
  · exact .inr ⟨rfl, rfl⟩
  · exact .inr ⟨rfl, rfl⟩
  · exact .inr (acceptFill_sameResult _ si sc ei ec s)
  · exact .inr (acceptFill_sameResult _ si sc ei ec s)

/-- By the cases of 70 R137. -/
theorem step_convert_or_sameResult {s t : State} (h : step s = .next t) (hr : s.resetIn = false) :
    (s.ready ∧ ∃ w hue sat v, s.port = some w ∧ decode w = .ok (.convert hue sat v) ∧
      t.status.rvalid = true) ∨ SameResult s t := by
  rcases step_next_cases h with ⟨hr', -⟩ | ⟨-, rfl⟩ | ⟨-, -, rfl⟩ | ⟨hs, w, i, hp, hd, he⟩ |
      ⟨-, w, e, -, -, rfl⟩
  · exact absurd (hr.symm.trans hr') (by decide)
  · exact .inr (fillStep_sameResult s)
  · exact .inr ⟨rfl, rfl⟩
  · rcases exec_convert_or_sameResult he with ⟨hue, sat, v, hi, hv⟩ | hsame
    · exact .inl ⟨hs, w, hue, sat, v, hp, hi ▸ hd, hv⟩
    · exact .inr hsame
  · exact .inr ⟨rfl, rfl⟩

/-- No reset is applied and no word waits: what the core does next is the rest of a fill, or
nothing. -/
def State.undisturbed (s : State) : Prop :=
  s.resetIn = false ∧ s.port = none

theorem State.undisturbed.step {s t : State} (hs : s.undisturbed) (h : step s = .next t) :
    t.undisturbed ∧ SameResult s t := by
  obtain ⟨hr, hp⟩ := hs
  refine ⟨?_, (step_convert_or_sameResult h hr).resolve_left ?_⟩
  · rcases step_next_cases h with ⟨hr', -⟩ | ⟨-, rfl⟩ | ⟨-, -, rfl⟩ | ⟨-, w, i, hp', -⟩ |
        ⟨-, w, e, hp', -⟩
    · exact absurd (hr.symm.trans hr') (by decide)
    · obtain ⟨m, n, st, d, e, -⟩ := fillStep_frame s
      exact e ▸ ⟨hr, hp⟩
    · exact ⟨hr, hp⟩
    · exact absurd (hp.symm.trans hp') (by simp)
    · exact absurd (hp.symm.trans hp') (by simp)
  · rintro ⟨-, w, hue, sat, v, hp', -⟩
    exact absurd (hp.symm.trans hp') (by simp)

theorem State.undisturbed.runCore {n : Nat} {s t : State} (hs : s.undisturbed)
    (h : runCore n s = .next t) : SameResult s t := by
  induction n generalizing s with
  | zero =>
    obtain rfl := Host.Outcome.next.inj h
    exact ⟨rfl, rfl⟩
  | succ n ih =>
    obtain ⟨u, hstep, hrun⟩ := exists_step_of_runCore_succ h
    obtain ⟨hu, hsame⟩ := hs.step hstep
    exact hsame.trans (ih hu hrun)

/-- Whatever its operands are, the acceptance of a fill leaves RESULT and RVALID, and so does all
that follows while no further word is offered. -/
theorem runCore_sameResult_of_acceptFill {s t : State} {i : Instr} {op : Opcode} {si ei : Index}
    {sc ec : Triple} (n : Nat) (hs : s.ready) (hp : s.port = some (encode i))
    (he : exec i s.consume = .next (acceptFill op si sc ei ec s.consume))
    (h : runCore n s = .next t) : SameResult s t := by
  cases n with
  | zero =>
    obtain rfl := Host.Outcome.next.inj h
    exact ⟨rfl, rfl⟩
  | succ n =>
    have hstep := (step_of_ready_of_decode_ok hs hp (decode_encode i)).trans he
    rw [runCore_succ_of_next n hstep] at h
    have hacc : SameResult s (acceptFill op si sc ei ec s.consume) :=
      acceptFill_sameResult op si sc ei ec s.consume
    have hund : (acceptFill op si sc ei ec s.consume).undisturbed := by
      obtain ⟨l, m, st, e, -⟩ := acceptFill_frame op si sc ei ec s.consume
      obtain ⟨hr, -, -⟩ := hs
      exact e ▸ ⟨hr, rfl⟩
    exact hacc.trans (hund.runCore h)

/-- Settles O17: by the cases of the step, and by induction over the run of a fill, in which no word
waits. -/
theorem onlyConvertWritesResult : Obligations.OnlyConvertWritesResult := by
  refine ⟨fun s t h => ⟨fun hne => ?_, fun hs => ?_⟩, fun s t si ei sc ec n hs hp h => ?_⟩
  · cases hr : s.resetIn with
    | true => exact .inl rfl
    | false =>
      refine .inr ((step_convert_or_sameResult h hr).resolve_right fun hsame => ?_)
      exact hne.elim (absurd hsame.1) (absurd hsame.2)
  · obtain rfl := Host.Outcome.next.inj ((step_of_filling hs).symm.trans h)
    exact fillStep_sameResult s
  · rcases hp with hp | hp
    · exact runCore_sameResult_of_acceptFill n hs hp rfl h
    · exact runCore_sameResult_of_acceptFill n hs hp rfl h

/-! ### The acceptance of a fill and its steps (42_gradient.md R89 to R94) -/

theorem exec_fillhsv (si ei : Index) (sc ec : Hsv) (s : State) :
    exec (.fillhsv si sc ei ec) s = .next (acceptFill .fillhsv si sc ei ec s) := rfl

theorem exec_fillrgb (si ei : Index) (sc ec : Rgb) (s : State) :
    exec (.fillrgb si sc ei ec) s = .next (acceptFill .fillrgb si sc ei ec s) := rfl

/-- Settles O36, by the accepting branch of `acceptFill`. -/
theorem fillIsAccepted : Obligations.FillIsAccepted := by
  intro s si ei sc ec hle
  rw [exec_fillhsv, exec_fillrgb, acceptFill_of_le _ _ _ _ hle, acceptFill_of_le _ _ _ _ hle]
  exact ⟨rfl, rfl⟩

/-- Settles O37, by the refusing branch of `acceptFill`. -/
theorem reversedFillRaisesRangeFault : Obligations.ReversedFillRaisesRangeFault := by
  intro s si ei sc ec hlt
  rw [exec_fillhsv, exec_fillrgb, acceptFill_of_lt _ _ _ _ hlt, acceptFill_of_lt _ _ _ _ hlt]
  exact ⟨rfl, rfl⟩

/-- Settles O40: the index of the step fits in FIDX. -/
theorem fillStepOutOfBoundsFaults : Obligations.FillStepOutOfBoundsFaults := by
  intro s hs hle hfits
  have hidx : s.latch.index s.stepCtr.toNat = (s.latch.si + s.stepCtr).toNat :=
    (BitVec.toNat_add_of_lt (Nat.lt_succ_of_le hfits)).symm
  rw [step_of_filling_of_le hs hle, hidx, s.raise_boundsFault_toNat]

theorem Latch.converts_eq_false {l : Latch} (h : l.op = 0x04) : l.converts = false := by
  rw [Latch.converts, h]
  rfl

/-- After its store a fill step clears BUSY at the last index and advances STEP before it. -/
theorem fillAdvance_storePixel (s : State) :
    let t := fillAdvance (storePixel s.latch s.stepCtr.toNat s)
    (s.latch.index s.stepCtr.toNat = s.latch.ei.toNat →
      t = { s with buf := t.buf, draws := t.draws, status := { s.status with busy := false } }) ∧
    (s.latch.index s.stepCtr.toNat ≠ s.latch.ei.toNat →
      t = { s with buf := t.buf, draws := t.draws, stepCtr := s.stepCtr + 1 }) := by
  obtain ⟨m, d, e⟩ : ∃ m d,
      storePixel s.latch s.stepCtr.toNat s = { s with buf := m, draws := d } :=
    ⟨_, _, storePixel_eq ..⟩
  rw [e]
  refine ⟨fun h => ?_, fun h => ?_⟩
  · rw [fillAdvance_of_last (s := { s with buf := m, draws := d }) h]
    rfl
  · rw [fillAdvance_of_ne_last (s := { s with buf := m, draws := d }) h]
    rfl

/-- Settles O38: the pixel is the interpolated triple as it is, and takes no draw. -/
theorem fillrgbStepStoresTheComponents : Obligations.FillrgbStepStoresTheComponents := by
  intro s hs hop hlt
  have hpixel : fillPixel s.latch s.stepCtr.toNat s =
      (fillComponents s.latch s.stepCtr.toNat, s) := by
    simp [fillPixel, Latch.converts_eq_false hop]
  have hdraws : (storePixel s.latch s.stepCtr.toNat s).draws = s.draws := by
    rw [storePixel_eq, hpixel]
  obtain ⟨hlast, hnext⟩ := fillAdvance_storePixel s
  simp only [fillAdvance_draws, hdraws] at hlast hnext
  refine ⟨_, step_of_filling_of_lt hs hlt, fun k => ?_, hlast, hnext⟩
  rw [fillAdvance_buf, read_storePixel, hpixel, fillComponents_eq_gradientAt, Latch.index]
  by_cases hk : k = s.latch.si.toNat + s.stepCtr.toNat <;> simp [hk]

/-- Settles O39: the pixel is the conversion of the interpolated triple, or one draw. -/
theorem fillhsvStepStoresTheConversion : Obligations.FillhsvStepStoresTheConversion := by
  intro s hs hop hlt k x
  obtain ⟨hlast, hnext⟩ := fillAdvance_storePixel s
  refine ⟨_, (fillPixel s.latch s.stepCtr.toNat s).1, step_of_filling_of_lt hs hlt, ?_, fun j => ?_,
    hlast, hnext⟩
  · rw [fillAdvance_draws, storePixel_eq]
    rcases fillPixel_cases s.latch s.stepCtr.toNat s with ⟨hconv, -⟩ | ⟨-, c, hc, hp⟩ |
      ⟨-, hnone, hp⟩
    · exact absurd (hconv.symm.trans (Latch.converts_iff.mpr hop)) (by decide)
    · rw [fillComponents_eq_gradientAt] at hc
      exact .inl ⟨by rw [hp]; exact hc, by rw [hp]⟩
    · rw [fillComponents_eq_gradientAt] at hnone
      exact .inr ⟨hnone, by rw [hp, Triple.pack24_unpack24], by rw [hp]; rfl⟩
  · rw [fillAdvance_buf, read_storePixel]
    rfl

/-- A core that can accept a word is in a fill once it has accepted one (R89). -/
theorem State.ready.filling_beginFill {s : State} (hs : s.ready) (l : Latch) :
    (s.beginFill l).filling := by
  obtain ⟨hr, -, hf⟩ := hs
  exact ⟨hr, hf, rfl⟩

theorem State.ready.clear_setBusy {s : State} (hs : s.ready) :
    { s.status.setBusy with busy := false } = s.status := by
  obtain ⟨-, hb, -⟩ := hs
  rw [← hb]
  rfl

/-- Settles O41: the fill step of the accepted command is its last one, and the gradient of equal
indices is the start colour. -/
theorem equalIndicesStoreTheStartColor : Obligations.EqualIndicesStoreTheStartColor := by
  refine fun s k sc ec hs hlt => ⟨?_, ?_⟩
  · have hfill := hs.filling_beginFill (Latch.load .fillrgb k sc k ec)
    obtain ⟨u, hstep, hread, hlast, -⟩ := fillrgbStepStoresTheComponents _ hfill rfl hlt
    refine ⟨_, u, (exec_fillrgb ..).trans (congrArg _ (acceptFill_of_le _ _ _ _ le_rfl)), hstep, ?_,
      fun j => ?_⟩
    · rw [hlast rfl]
      exact hs.clear_setBusy
    · simpa using hread j
  · have hfill := hs.filling_beginFill (Latch.load .fillhsv k sc k ec)
    obtain ⟨u, c, hstep, hc, hread, hlast, -⟩ := fillhsvStepStoresTheConversion _ hfill rfl hlt
    simp only [State.beginFill_latch, Latch.load_si, Latch.load_sc, Latch.load_ei, Latch.load_ec,
      gradientAt_equalIndices] at hc
    refine ⟨_, u, c, (exec_fillhsv ..).trans (congrArg _ (acceptFill_of_le _ _ _ _ le_rfl)), hstep,
      hc.imp And.left And.left, ?_, fun j => ?_⟩
    · rw [hlast rfl]
      exact hs.clear_setBusy
    · simpa using hread j

end Sys2Proof.Machine

namespace Sys2Proof.Machine

/-! ### The whole-command form, iteration by iteration (42_gradient.md R96) -/

theorem fillLoop_succ {l : Latch} (n : Nat) {i : Nat} {s : State} (h : l.index i < s.bufLen) :
    fillLoop l (n + 1) i s = fillLoop l n (i + 1) (storePixel l i s) := by
  rw [fillLoop, fillStore_of_lt h]

theorem fillLoop_succ_last {l : Latch} (n : Nat) {i : Nat} {s : State}
    (h : l.index (i + n) < s.bufLen) :
    fillLoop l (n + 1) i s = storePixel l (i + n) (fillLoop l n i s) := by
  induction n generalizing i s with
  | zero => exact fillLoop_succ 0 h
  | succ n ih =>
    have hi : l.index i < s.bufLen := by
      rw [Latch.index] at h ⊢
      omega
    have h' : l.index (i + 1 + n) < (storePixel l i s).bufLen := by
      rw [storePixel_eq, Nat.add_right_comm]
      exact h
    rw [fillLoop_succ _ hi, ih h', fillLoop_succ _ hi, Nat.add_right_comm, Nat.add_assoc]

/-- The form used below: the iterations from number 0 on. -/
theorem fillLoop_zero_succ {l : Latch} {n : Nat} {s : State} (h : l.index n < s.bufLen) :
    fillLoop l (n + 1) 0 s = storePixel l n (fillLoop l n 0 s) := by
  have hlast := fillLoop_succ_last (l := l) n (i := 0) (s := s) (by rwa [Nat.zero_add])
  rwa [Nat.zero_add] at hlast

/-- The iterations 0 to `n - 1` of the fill stay inside the buffer. -/
def Latch.fits (l : Latch) (n len : Nat) : Prop :=
  ∀ i < n, l.index i < len

theorem Latch.fits.pred {l : Latch} {n len : Nat} (h : l.fits (n + 1) len) : l.fits n len :=
  fun i hi => h i (Nat.lt_succ_of_lt hi)

theorem Latch.fits.last {l : Latch} {n len : Nat} (h : l.fits (n + 1) len) : l.index n < len :=
  h n (Nat.lt_succ_self n)

theorem Latch.fits_of_le {l : Latch} {n len : Nat} (h : l.si.toNat + n ≤ len) : l.fits n len := by
  intro i hi
  rw [Latch.index]
  omega

/-- Iterations inside the buffer write BUF and take draws, and do nothing else. -/
theorem fillLoop_frame {l : Latch} {n : Nat} {s : State} (h : l.fits n s.bufLen) :
    ∃ m d, fillLoop l n 0 s = { s with buf := m, draws := d } := by
  induction n with
  | zero => exact ⟨s.buf, s.draws, rfl⟩
  | succ n ih =>
    obtain ⟨m, d, e⟩ := ih h.pred
    rw [fillLoop_zero_succ h.last, storePixel_eq, e]
    exact ⟨_, _, rfl⟩

theorem fillLoop_draws {l : Latch} {n : Nat} {s : State} (h : l.fits n s.bufLen)
    (hpixel : ∀ i < n, ∀ v, (fillPixel l i v).2 = v) : (fillLoop l n 0 s).draws = s.draws := by
  induction n with
  | zero => rfl
  | succ n ih =>
    rw [fillLoop_zero_succ h.last, storePixel_eq, hpixel n (Nat.lt_succ_self n)]
    exact ih h.pred fun i hi => hpixel i (Nat.lt_succ_of_lt hi)

/-! ### What the iterations of a fill leave in the buffer (42_gradient.md R91, R92, R98) -/

/-- `m'` is `m` after the first `n` iterations of a fill. -/
structure Filled (l : Latch) (n : Nat) (m m' : Memory) : Prop where
  stored : ∀ i < n, ∃ v, m'.read (l.index i) = some (fillPixel l i v).1
  kept : ∀ k, k < l.si.toNat ∨ l.si.toNat + n ≤ k → m'.read k = m.read k

theorem filled_fillLoop {l : Latch} {n : Nat} {s : State} (h : l.fits n s.bufLen) :
    Filled l n s.buf (fillLoop l n 0 s).buf := by
  induction n with
  | zero => exact ⟨fun i hi => absurd hi (Nat.not_lt_zero i), fun _ _ => rfl⟩
  | succ n ih =>
    obtain ⟨stored, kept⟩ := ih h.pred
    refine ⟨fun i hi => ?_, fun k hk => ?_⟩ <;>
      rw [fillLoop_zero_succ h.last, read_storePixel]
    · rcases Nat.lt_succ_iff_lt_or_eq.mp hi with hlt | rfl
      · rw [if_neg (by simp only [Latch.index]; omega)]
        exact stored i hlt
      · exact ⟨_, if_pos rfl⟩
    · rw [if_neg (by rw [Latch.index]; omega)]
      exact kept k (by omega)

theorem fillPixel_of_rgb {l : Latch} (h : l.converts = false) (i : Nat) (s : State) :
    fillPixel l i s = (gradientAt l.si l.sc l.ei l.ec (l.index i), s) := by
  rw [fillPixel, if_neg (by simp [h]), fillComponents_eq_gradientAt]
  rfl

theorem fillPixel_of_hsv {l : Latch} (h : l.converts = true) (i : Nat) (s : State) :
    fillPixel l i s =
      convertColor (gradientAt l.si l.sc l.ei l.ec (l.index i)).c0
        (gradientAt l.si l.sc l.ei l.ec (l.index i)).c1
        (gradientAt l.si l.sc l.ei l.ec (l.index i)).c2 s := by
  rw [fillPixel, if_pos h, fillComponents_eq_gradientAt]
  rfl

/-- FILLRGB leaves the gradient. -/
theorem Filled.read_rgb {l : Latch} {n : Nat} {m m' : Memory} (h : Filled l n m m')
    (hrgb : l.converts = false) (k : Nat) :
    m'.read k = if l.si.toNat ≤ k ∧ k < l.si.toNat + n then some (gradientAt l.si l.sc l.ei l.ec k)
      else m.read k := by
  split_ifs with hk
  · obtain ⟨i, rfl⟩ := Nat.exists_eq_add_of_le hk.1
    obtain ⟨v, hv⟩ := h.stored i (by omega)
    rwa [fillPixel_of_rgb hrgb] at hv
  · exact h.kept k (by omega)

theorem isFillhsvColor_fillPixel {l : Latch} {i : Nat} (s : State) (hhsv : l.converts = true)
    (hi : l.index i ≤ l.ei.toNat) :
    IsFillhsvColor l.si l.sc l.ei l.ec (l.index i) (fillPixel l i s).1 := by
  rw [fillPixel_of_hsv hhsv]
  rcases convertColor_cases (gradientAt l.si l.sc l.ei l.ec (l.index i)).c0
    (gradientAt l.si l.sc l.ei l.ec (l.index i)).c1
    (gradientAt l.si l.sc l.ei l.ec (l.index i)).c2 s with ⟨c, hc, e⟩ | ⟨hnone, -⟩
  · rw [e]
    exact .inl hc
  · refine .inr ⟨hnone, Bool.eq_false_iff.mpr fun hdom => ?_⟩
    obtain ⟨hsc, hec⟩ := Bool.and_eq_true_iff.mp hdom
    have hle : l.si.toNat ≤ l.ei.toNat := (Nat.le_add_right _ i).trans hi
    rw [hsv2rgb_of_inDomain _ (inDomain_gradientAt hi hsc hec hle)] at hnone
    cases hnone

/-- FILLHSV leaves converted colours of the gradient. -/
theorem Filled.read_hsv {l : Latch} {n : Nat} {m m' : Memory} (h : Filled l n m m')
    (hhsv : l.converts = true) {k : Nat} (hle : l.si.toNat ≤ k) (hlt : k < l.si.toNat + n)
    (hei : k ≤ l.ei.toNat) :
    ∃ c, m'.read k = some c ∧ IsFillhsvColor l.si l.sc l.ei l.ec k c := by
  obtain ⟨i, rfl⟩ := Nat.exists_eq_add_of_le hle
  obtain ⟨v, hv⟩ := h.stored i (by omega)
  exact ⟨_, hv, isFillhsvColor_fillPixel v hhsv hei⟩

theorem IsFillhsvColor.eq_of_some {si ei : Index} {sc ec : Hsv} {k : Nat} {c d : Rgb}
    (h : IsFillhsvColor si sc ei ec k c)
    (hd : hsv2rgb (gradientAt si sc ei ec k).c0 (gradientAt si sc ei ec k).c1
      (gradientAt si sc ei ec k).c2 = some d) : c = d := by
  rcases h with hc | ⟨hnone, -⟩
  · exact Option.some.inj (hc.symm.trans hd)
  · exact absurd (hnone.symm.trans hd) (by simp)

theorem IsFillhsvColor.of_inDomain {si ei : Index} {sc ec : Hsv} {k : Nat} {c : Rgb}
    (h : IsFillhsvColor si sc ei ec k c) (hsc : inDomain sc.c1 sc.c2 = true)
    (hec : inDomain ec.c1 ec.c2 = true) :
    hsv2rgb (gradientAt si sc ei ec k).c0 (gradientAt si sc ei ec k).c1
      (gradientAt si sc ei ec k).c2 = some c := by
  rcases h with hc | ⟨-, hdom⟩
  · exact hc
  · simp [hsc, hec] at hdom

/-! ### Runs of fill steps -/

theorem runCore_succ_last {n : Nat} {s t u : State} (h : runCore n s = .next t)
    (hstep : step t = .next u) : runCore (n + 1) s = .next u := by
  induction n generalizing s with
  | zero =>
    obtain rfl := Host.Outcome.next.inj h
    exact runCore_succ_of_next 0 hstep
  | succ n ih =>
    obtain ⟨v, hv, hrun⟩ := exists_step_of_runCore_succ h
    rw [runCore_succ_of_next _ hv, ih hrun]

theorem storePixel_withLatchStep (l l' : Latch) (i : Nat) (c : BitVec 16) (s : State) :
    storePixel l i (s.withLatchStep l' c) = (storePixel l i s).withLatchStep l' c := by
  have hpixel : fillPixel l i (s.withLatchStep l' c) =
      ((fillPixel l i s).1, (fillPixel l i s).2.withLatchStep l' c) := by
    cases h : l.converts with
    | true => simp only [fillPixel, h, if_true, convertColor_withLatchStep]
    | false => simp [fillPixel, h]
  rw [storePixel, hpixel]
  rfl

theorem Latch.lt_of_index_le {l : Latch} {n : Nat} (h : l.index n ≤ l.ei.toNat) : n < 2 ^ 16 :=
  (Nat.le_add_left n l.si.toNat).trans_lt (h.trans_lt l.ei.isLt)

theorem toNat_stepCtr_withLatchStep (l : Latch) {n : Nat} (s : State) (h : n < 2 ^ 16) :
    (s.withLatchStep l (BitVec.ofNat 16 n)).stepCtr.toNat = n :=
  (BitVec.toNat_ofNat n 16).trans (Nat.mod_eq_of_lt h)

/-- The fill step at iteration `n`, inside the buffer. -/
theorem step_fillLoop_of_lt {s : State} {l : Latch} {n : Nat} (hs : s.filling)
    (hn : l.index n ≤ l.ei.toNat) (hfits : l.fits (n + 1) s.bufLen) :
    step ((fillLoop l n 0 s).withLatchStep l (BitVec.ofNat 16 n)) =
      .next (fillAdvance ((fillLoop l (n + 1) 0 s).withLatchStep l (BitVec.ofNat 16 n))) := by
  obtain ⟨m, d, e⟩ := fillLoop_frame hfits.pred
  have hctr := toNat_stepCtr_withLatchStep l (fillLoop l n 0 s) (Latch.lt_of_index_le hn)
  rw [fillLoop_zero_succ hfits.last, ← storePixel_withLatchStep]
  refine (step_of_filling_of_lt ?_ ?_).trans (by rw [hctr]; rfl)
  · exact e ▸ hs
  · rw [hctr, e]
    exact hfits.last

/-- The fill step at iteration `n`, at the end of the buffer or beyond it. -/
theorem step_fillLoop_of_le {s : State} {l : Latch} {n : Nat} (hs : s.filling)
    (hn : l.index n ≤ l.ei.toNat) (hfits : l.fits n s.bufLen) (hout : s.bufLen ≤ l.index n) :
    step ((fillLoop l n 0 s).withLatchStep l (BitVec.ofNat 16 n)) =
      .next (((fillLoop l n 0 s).withLatchStep l (BitVec.ofNat 16 n)).raise
        (.boundsFault (l.index n))) := by
  obtain ⟨m, d, e⟩ := fillLoop_frame hfits
  have hctr := toNat_stepCtr_withLatchStep l (fillLoop l n 0 s) (Latch.lt_of_index_le hn)
  refine (step_of_filling_of_le ?_ ?_).trans (by rw [hctr]; rfl)
  · exact e ▸ hs
  · rw [hctr, e]
    exact hout

/-- From the first fill step on, `n` steps inside the range and the buffer are the iterations 0 to
`n - 1` of the whole-command form, with STEP at `n`. -/
theorem runCore_of_filling {s : State} {n : Nat} (hs : s.filling) (h0 : s.stepCtr = 0)
    (hn : s.latch.index n ≤ s.latch.ei.toNat) (hfits : s.latch.fits n s.bufLen) :
    runCore n s = .next ((fillLoop s.latch n 0 s).withLatchStep s.latch (BitVec.ofNat 16 n)) := by
  induction n with
  | zero => exact congrArg Host.Outcome.next (congrArg (s.withLatchStep s.latch) h0)
  | succ n ih =>
    have hlt : s.latch.index n < s.latch.ei.toNat := hn
    have hctr := toNat_stepCtr_withLatchStep s.latch (fillLoop s.latch (n + 1) 0 s)
      (Latch.lt_of_index_le hlt.le)
    have hstep := step_fillLoop_of_lt hs hlt.le hfits
    rw [fillAdvance_of_ne_last (by rw [hctr]; exact hlt.ne)] at hstep
    rw [runCore_succ_last (ih hlt.le hfits.pred) hstep, BitVec.ofNat_add]
    rfl

theorem wholeFill_eq_fillLoop (l : Latch) (s : State) :
    wholeFill l s = fillLoop l (l.ei.toNat - l.si.toNat + 1) 0 s := by
  rw [wholeFill, Latch.gap, Int.toNat_sub]

theorem Latch.index_gap {l : Latch} (hle : l.si.toNat ≤ l.ei.toNat) :
    l.index (l.ei.toNat - l.si.toNat) = l.ei.toNat :=
  Nat.add_sub_of_le hle

theorem Latch.fits_gap {l : Latch} {len : Nat} (hle : l.si.toNat ≤ l.ei.toNat)
    (hlt : l.ei.toNat < len) : l.fits (l.ei.toNat - l.si.toNat + 1) len :=
  Latch.fits_of_le (by omega)

theorem ofNat_toNat_sub {si ei : Index} (hle : si.toNat ≤ ei.toNat) :
    BitVec.ofNat 16 (ei.toNat - si.toNat) = ei - si := by
  rw [← BitVec.toNat_sub_of_le hle, BitVec.ofNat_toNat, BitVec.setWidth_eq]

/-- Settles O42: after gap steps the fill is before its last iteration, whose step clears BUSY. -/
theorem stepsAgreeWithWholeCommandForm : Obligations.StepsAgreeWithWholeCommandForm := by
  intro s hs h0 hle hlt
  have hlast := Latch.index_gap hle
  have hfits := Latch.fits_gap hle hlt
  have hctr := toNat_stepCtr_withLatchStep s.latch
    (fillLoop s.latch (s.latch.ei.toNat - s.latch.si.toNat + 1) 0 s)
    (Latch.lt_of_index_le hlast.le)
  have hstep := step_fillLoop_of_lt hs hlast.le hfits
  rw [fillAdvance_of_last (by rw [hctr]; exact hlast)] at hstep
  rw [runCore_succ_last (runCore_of_filling hs h0 hlast.le hfits.pred) hstep,
    wholeFill_eq_fillLoop, ofNat_toNat_sub hle]
  obtain ⟨m, d, e⟩ := fillLoop_frame hfits
  rw [e]
  rfl

end Sys2Proof.Machine

namespace Sys2Proof.Machine

/-! ### Whole fills from the port (42_gradient.md R91, R92, R97 to R101) -/

theorem step_of_fillhsv_waiting {s : State} {si ei : Index} {sc ec : Hsv} (hs : s.ready)
    (hp : s.port = some (encode (.fillhsv si sc ei ec))) (hle : si.toNat ≤ ei.toNat) :
    step s = .next (s.consume.beginFill (Latch.load .fillhsv si sc ei ec)) := by
  rw [step_of_ready_of_decode_ok hs hp (decode_encode _), exec_fillhsv,
    acceptFill_of_le _ _ _ _ hle]

theorem step_of_fillrgb_waiting {s : State} {si ei : Index} {sc ec : Rgb} (hs : s.ready)
    (hp : s.port = some (encode (.fillrgb si sc ei ec))) (hle : si.toNat ≤ ei.toNat) :
    step s = .next (s.consume.beginFill (Latch.load .fillrgb si sc ei ec)) := by
  rw [step_of_ready_of_decode_ok hs hp (decode_encode _), exec_fillrgb,
    acceptFill_of_le _ _ _ _ hle]

/-- A fill inside the buffer, from its acceptance to its last step: its range is filled, and but for
LATCH, STEP, the consumed port and the draws of its pixels everything is as before. -/
theorem runCore_fill {s : State} {l : Latch} (hs : s.ready)
    (hstep : step s = .next (s.consume.beginFill l)) (hle : l.si.toNat ≤ l.ei.toNat)
    (hlt : l.ei.toNat < s.bufLen) :
    ∃ t, runCore (l.ei.toNat - l.si.toNat + 2) s = .next t ∧
      Filled l (l.ei.toNat - l.si.toNat + 1) s.buf t.buf ∧
      ((∀ i, l.index i ≤ l.ei.toNat → ∀ v, (fillPixel l i v).2 = v) → t.draws = s.draws) ∧
      t = { s with
        buf := t.buf, port := none, latch := t.latch, stepCtr := t.stepCtr, draws := t.draws } := by
  have hfits : l.fits (l.ei.toNat - l.si.toNat + 1) (s.consume.beginFill l).bufLen :=
    Latch.fits_gap hle hlt
  have hrun := stepsAgreeWithWholeCommandForm (s.consume.beginFill l)
    (State.ready.filling_beginFill (s := s.consume) hs l) rfl hle hlt
  simp only [State.beginFill_latch, wholeFill_eq_fillLoop] at hrun
  refine ⟨_, (runCore_succ_of_next _ hstep).trans hrun, filled_fillLoop hfits,
    fun hpixel => fillLoop_draws hfits fun i hi => hpixel i ?_, ?_⟩
  · rw [Latch.index]
    omega
  · obtain ⟨m, d, e⟩ := fillLoop_frame hfits
    simp only [e, State.beginFill_status, State.consume_status, hs.clear_setBusy]
    rfl

/-- A fill whose iteration `n` is the first one outside the buffer, from its acceptance to the
BoundsFault. -/
theorem runCore_fill_boundsFault {s : State} {l : Latch} {n : Nat} (hs : s.ready)
    (hstep : step s = .next (s.consume.beginFill l)) (hn : l.index n ≤ l.ei.toNat)
    (hfits : l.fits n s.bufLen) (hout : s.bufLen ≤ l.index n) :
    ∃ t, runCore (n + 2) s = .next t ∧
      t.status = ⟨false, true, s.status.rvalid, 3, BitVec.ofNat 16 (l.index n)⟩ ∧
      t.buf = (fillLoop l n 0 (s.consume.beginFill l)).buf := by
  have hfill : (s.consume.beginFill l).filling :=
    State.ready.filling_beginFill (s := s.consume) hs l
  have hfits' : l.fits n (s.consume.beginFill l).bufLen := hfits
  have hrun := runCore_succ_last (runCore_of_filling hfill rfl hn hfits')
    (step_fillLoop_of_le hfill hn hfits' hout)
  refine ⟨_, (runCore_succ_of_next _ hstep).trans hrun, ?_, rfl⟩
  obtain ⟨m, d, e⟩ := fillLoop_frame hfits'
  simp only [State.beginFill_latch, e]
  rfl

/-- A fill that starts inside the buffer and ends outside it. -/
theorem runCore_fill_leaving {s : State} {l : Latch} (hs : s.ready)
    (hstep : step s = .next (s.consume.beginFill l)) (hlt : l.si.toNat < s.bufLen)
    (hout : s.bufLen ≤ l.ei.toNat) :
    ∃ t, runCore (s.bufLen - l.si.toNat + 2) s = .next t ∧
      t.status = ⟨false, true, s.status.rvalid, 3, BitVec.ofNat 16 s.bufLen⟩ ∧
      Filled l (s.bufLen - l.si.toNat) s.buf t.buf := by
  have hidx : l.index (s.bufLen - l.si.toNat) = s.bufLen := Nat.add_sub_of_le hlt.le
  have hfits : l.fits (s.bufLen - l.si.toNat) s.bufLen := Latch.fits_of_le hidx.le
  obtain ⟨t, hrun, hst, hbuf⟩ :=
    runCore_fill_boundsFault hs hstep (hidx.trans_le hout) hfits hidx.ge
  exact ⟨t, hrun, hidx ▸ hst, hbuf ▸ filled_fillLoop (s := s.consume.beginFill l) hfits⟩

/-- A fill that starts outside the buffer. -/
theorem runCore_fill_outside {s : State} {l : Latch} (hs : s.ready)
    (hstep : step s = .next (s.consume.beginFill l)) (hle : l.si.toNat ≤ l.ei.toNat)
    (hout : s.bufLen ≤ l.si.toNat) :
    ∃ t, runCore 2 s = .next t ∧ t.status = ⟨false, true, s.status.rvalid, 3, l.si⟩ ∧
      t.buf = s.buf := by
  obtain ⟨t, hrun, hst, hbuf⟩ := runCore_fill_boundsFault (n := 0) hs hstep hle
    (fun i hi => absurd hi (Nat.not_lt_zero i)) hout
  refine ⟨t, hrun, hst.trans ?_, hbuf⟩
  rw [Latch.index, Nat.add_zero, BitVec.ofNat_toNat, BitVec.setWidth_eq]

/-- Settles O43: the pixels of FILLRGB are the gradient itself and take no draw. -/
theorem fillrgbFillsTheRange : Obligations.FillrgbFillsTheRange := by
  intro s si ei sc ec hs hp hle hlt
  obtain ⟨t, hrun, hfilled, hdraws, hframe⟩ :=
    runCore_fill hs (step_of_fillrgb_waiting hs hp hle) hle hlt
  rw [hdraws fun i _ v => congrArg Prod.snd (fillPixel_of_rgb rfl i v)] at hframe
  refine ⟨t, hrun, fun k => ?_, hframe⟩
  have hrange : si.toNat ≤ k ∧ k ≤ ei.toNat ↔
      si.toNat ≤ k ∧ k < si.toNat + (ei.toNat - si.toNat + 1) := by omega
  simp only [hrange]
  exact hfilled.read_rgb rfl k

theorem fillPixel_state_of_inDomain {l : Latch} {i : Nat} (s : State) (hhsv : l.converts = true)
    (hi : l.index i ≤ l.ei.toNat) (hsc : inDomain l.sc.c1 l.sc.c2 = true)
    (hec : inDomain l.ec.c1 l.ec.c2 = true) : (fillPixel l i s).2 = s := by
  have hle : l.si.toNat ≤ l.ei.toNat := (Nat.le_add_right _ i).trans hi
  rw [fillPixel_of_hsv hhsv,
    convertColor_of_some _ (hsv2rgb_of_inDomain _ (inDomain_gradientAt hi hsc hec hle))]

/-- Settles O44: between two colours of the domain every conversion is specified and takes no
draw. -/
theorem fillhsvFillsTheRange : Obligations.FillhsvFillsTheRange := by
  intro s si ei sc ec hs hp hle hlt hs0 hv0 hs1 hv1
  have hsc := (inDomain_iff _ _).mpr ⟨hs0, hv0⟩
  have hec := (inDomain_iff _ _).mpr ⟨hs1, hv1⟩
  obtain ⟨t, hrun, hfilled, hdraws, hframe⟩ :=
    runCore_fill hs (step_of_fillhsv_waiting hs hp hle) hle hlt
  rw [hdraws fun i hi v => fillPixel_state_of_inDomain v rfl hi hsc hec] at hframe
  refine ⟨t, hrun, fun k hk hk' => ?_, fun k hk => hfilled.kept k ?_, hframe⟩
  · have hlast : k < si.toNat + (ei.toNat - si.toNat + 1) := by omega
    obtain ⟨c, hread, hc⟩ := hfilled.read_hsv rfl hk hlast hk'
    exact ⟨c, hc.of_inDomain hsc hec, hread⟩
  · rw [Latch.load_si, Latch.load_ei]
    omega

/-- A finished FILLHSV holds the conversion wherever that is specified. -/
theorem runCore_fillhsv {s : State} {si ei : Index} {sc ec : Hsv} (hs : s.ready)
    (hp : s.port = some (encode (.fillhsv si sc ei ec))) (hle : si.toNat ≤ ei.toNat)
    (hlt : ei.toNat < s.bufLen) :
    ∃ t, runCore (ei.toNat - si.toNat + 2) s = .next t ∧
      ∀ k c, si.toNat ≤ k → k ≤ ei.toNat →
        hsv2rgb (gradientAt si sc ei ec k).c0 (gradientAt si sc ei ec k).c1
          (gradientAt si sc ei ec k).c2 = some c → t.buf.read k = some c := by
  obtain ⟨t, hrun, hfilled, -⟩ := runCore_fill hs (step_of_fillhsv_waiting hs hp hle) hle hlt
  refine ⟨t, hrun, fun k c hk hk' hc => ?_⟩
  have hlast : k < si.toNat + (ei.toNat - si.toNat + 1) := by omega
  obtain ⟨d, hread, hd⟩ := hfilled.read_hsv rfl hk hlast hk'
  rw [hread, hd.eq_of_some hc]

/-- Settles O46: the elements below BUF_LEN are those of the first BUF_LEN - SI iterations. -/
theorem boundsFaultLeavesTheEarlierWrites : Obligations.BoundsFaultLeavesTheEarlierWrites := by
  intro s si ei sc ec hs hle
  refine ⟨fun hp hlt hout => ?_, fun hp hlt hout => ?_, fun hp hout => ?_⟩
  · obtain ⟨t, hrun, hst, hfilled⟩ :=
      runCore_fill_leaving hs (step_of_fillrgb_waiting hs hp hle) hlt hout
    refine ⟨t, hrun, hst, fun k => ?_⟩
    have hread := hfilled.read_rgb rfl k
    rwa [Latch.load_si, Nat.add_sub_of_le hlt.le] at hread
  · obtain ⟨t, hrun, hst, hfilled⟩ :=
      runCore_fill_leaving hs (step_of_fillhsv_waiting hs hp hle) hlt hout
    have hend : si.toNat + (s.bufLen - si.toNat) = s.bufLen := Nat.add_sub_of_le hlt.le
    refine ⟨t, hrun, hst, fun k hk hk' => ?_, fun k hk => hfilled.kept k ?_⟩
    · exact hfilled.read_hsv rfl hk (hk'.trans_eq hend.symm) (hk'.le.trans hout)
    · rwa [Latch.load_si, hend]
  · rcases hp with hp | hp
    · exact runCore_fill_outside hs (step_of_fillrgb_waiting hs hp hle) hle hout
    · exact runCore_fill_outside hs (step_of_fillhsv_waiting hs hp hle) hle hout

/-- Settles O47: the gradient between equal colours is that colour. -/
theorem solidFillStoresOneColor : Obligations.SolidFillStoresOneColor := by
  refine fun s si ei x hs hle hlt => ⟨fun hp => ?_, fun c hp hc => ?_⟩
  · obtain ⟨t, hrun, hread, -⟩ := fillrgbFillsTheRange s si ei x x hs hp hle hlt
    refine ⟨t, hrun, fun k hk hk' => ?_⟩
    rw [hread, if_pos ⟨hk, hk'⟩, gradientAt_equalColors]
  · obtain ⟨t, hrun, hread⟩ := runCore_fillhsv hs hp hle hlt
    exact ⟨t, hrun, fun k hk hk' => hread k c hk hk' (by rwa [gradientAt_equalColors])⟩

/-- Settles O48: the gradient is exact at its ends. -/
theorem fillEndpointsAreExact : Obligations.FillEndpointsAreExact := by
  refine fun s si ei sc ec hs hse hlt => ⟨fun hp => ?_, fun c d hp hc hd => ?_⟩
  · obtain ⟨t, hrun, hread, -⟩ := fillrgbFillsTheRange s si ei sc ec hs hp hse.le hlt
    refine ⟨t, hrun, ?_, ?_⟩
    · rw [hread, if_pos ⟨le_rfl, hse.le⟩, gradientAt_start]
    · rw [hread, if_pos ⟨hse.le, le_rfl⟩, gradientAt_end sc ec hse]
  · obtain ⟨t, hrun, hread⟩ := runCore_fillhsv hs hp hse.le hlt
    exact ⟨t, hrun, hread _ c le_rfl hse.le (by rwa [gradientAt_start]),
      hread _ d hse.le le_rfl (by rwa [gradientAt_end sc ec hse])⟩

end Sys2Proof.Machine

namespace Sys2Proof.Machine

/-! ### The three outcomes of a fill step (42_gradient.md R90, 60_exceptions.md R107) -/

/-- A fill step takes the BoundsFault, or stores its pixel and ends the fill at the last index, or
stores it and advances STEP. -/
theorem step_of_filling_cases {s : State} (hs : s.filling) :
    (s.bufLen ≤ s.latch.index s.stepCtr.toNat ∧
      step s = .next (s.raise (.boundsFault (s.latch.index s.stepCtr.toNat)))) ∨
    (s.latch.index s.stepCtr.toNat < s.bufLen ∧ ∃ m d,
      (s.latch.index s.stepCtr.toNat = s.latch.ei.toNat ∧ step s =
        .next { s with buf := m, draws := d, status := { s.status with busy := false } }) ∨
      (s.latch.index s.stepCtr.toNat ≠ s.latch.ei.toNat ∧ step s =
        .next { s with buf := m, draws := d, stepCtr := s.stepCtr + 1 })) := by
  rcases Nat.lt_or_ge (s.latch.index s.stepCtr.toNat) s.bufLen with hlt | hle
  · obtain ⟨hlast, hnext⟩ := fillAdvance_storePixel s
    have hstep := step_of_filling_of_lt hs hlt
    by_cases h : s.latch.index s.stepCtr.toNat = s.latch.ei.toNat
    · exact .inr ⟨hlt, _, _, .inl ⟨h, hstep.trans (congrArg _ (hlast h))⟩⟩
    · exact .inr ⟨hlt, _, _, .inr ⟨h, hstep.trans (congrArg _ (hnext h))⟩⟩
  · exact .inl ⟨hle, step_of_filling_of_le hs hle⟩

/-- `r` indices before its last one, a fill takes at most `r + 1` more steps (60_exceptions.md
R122). -/
theorem exists_runCore_busy_false {s : State} {r : Nat} (hs : s.filling)
    (hr : s.latch.index s.stepCtr.toNat + r = s.latch.ei.toNat) :
    ∃ n t, n ≤ r + 1 ∧ runCore n s = .next t ∧ t.status.busy = false := by
  induction r generalizing s with
  | zero =>
    rcases step_of_filling_cases hs with ⟨-, h⟩ | ⟨-, m, d, ⟨-, h⟩ | ⟨hne, -⟩⟩
    · exact ⟨1, _, le_rfl, runCore_succ_of_next 0 h, rfl⟩
    · exact ⟨1, _, le_rfl, runCore_succ_of_next 0 h, rfl⟩
    · exact absurd hr hne
  | succ r ih =>
    rcases step_of_filling_cases hs with ⟨-, h⟩ | ⟨-, m, d, ⟨-, h⟩ | ⟨-, h⟩⟩
    · exact ⟨1, _, by omega, runCore_succ_of_next 0 h, rfl⟩
    · exact ⟨1, _, by omega, runCore_succ_of_next 0 h, rfl⟩
    · have hidx : s.latch.index (s.stepCtr + 1).toNat + r = s.latch.ei.toNat := by
        have hei := s.latch.ei.isLt
        simp only [Latch.index] at hr ⊢
        have hinc : (s.stepCtr + 1).toNat = s.stepCtr.toNat + 1 :=
          BitVec.toNat_add_of_lt (show s.stepCtr.toNat + 1 < 2 ^ 16 by omega)
        omega
      obtain ⟨n, t, hn, hrun, hb⟩ :=
        ih (s := { s with buf := m, draws := d, stepCtr := s.stepCtr + 1 }) hs hidx
      exact ⟨n + 1, t, Nat.succ_le_succ hn, (runCore_succ_of_next n h).trans hrun, hb⟩

/-- During a fill the index of the step is at most LATCH.EI (42_gradient.md R90). -/
theorem Inv.index_le {s : State} (h : Inv s) (hb : s.status.busy = true) :
    s.latch.index s.stepCtr.toNat ≤ s.latch.ei.toNat := by
  have hle := h.fill_step hb
  rw [Latch.gap] at hle
  rw [Latch.index]
  omega

/-- Settles O49: the last index is below 65536, so at most 65535 indices follow that of the step. -/
theorem everyFillTerminates : Obligations.EveryFillTerminates := by
  intro s hinv hs
  have ⟨_, _, hb⟩ := hs
  obtain ⟨r, hr⟩ := Nat.exists_eq_add_of_le (hinv.index_le hb)
  obtain ⟨n, t, hn, hrun, ht⟩ := exists_runCore_busy_false hs hr.symm
  have hei := s.latch.ei.isLt
  exact ⟨n, t, by omega, hrun, ht⟩

/-! ### What faults, and which fault it is (60_exceptions.md R106, R108, R111) -/

/-- Settles O11, by the definition of fault entry; the index of a BoundsFault fits in FIDX. -/
theorem faultEntryWritesStatusOnly : Obligations.FaultEntryWritesStatusOnly :=
  fun s => ⟨rfl, rfl, s.raise_boundsFault_toNat⟩

/-- The acceptance of a fill of either kind. -/
theorem exists_step_eq_acceptFill {s : State} {w : CommandWord} {si ei : Index} {sc ec : Triple}
    (hs : s.ready) (hp : s.port = some w)
    (hd : decode w = .ok (.fillhsv si sc ei ec) ∨ decode w = .ok (.fillrgb si sc ei ec)) :
    ∃ op, step s = .next (acceptFill op si sc ei ec s.consume) := by
  rcases hd with hd | hd
  · exact ⟨_, (step_of_ready_of_decode_ok hs hp hd).trans (exec_fillhsv ..)⟩
  · exact ⟨_, (step_of_ready_of_decode_ok hs hp hd).trans (exec_fillrgb ..)⟩

/-- Settles O12: the word is decoded before its indices are compared, and those are compared before
the fill steps meet BUF_LEN. -/
theorem faultPriority : Obligations.FaultPriority := by
  refine ⟨fun s w e hs hp hd => ?_, fun s w si ei sc ec hs hp hd => ?_, fun s hs => ?_⟩
  · exact ⟨_, step_of_ready_of_decode_error hs hp hd, rfl, rfl, rfl⟩
  · obtain ⟨op, hstep⟩ := exists_step_eq_acceptFill hs hp hd
    refine ⟨fun hlt => ?_, fun hle => ?_⟩
    · rw [acceptFill_of_lt _ _ _ _ hlt] at hstep
      exact ⟨_, hstep, rfl, rfl, rfl⟩
    · rw [acceptFill_of_le _ _ _ _ hle] at hstep
      obtain ⟨-, -, hf⟩ := hs
      exact ⟨_, hstep, hf, rfl⟩
  · have ⟨_, hf, _⟩ := hs
    rcases step_of_filling_cases hs with ⟨hle, h⟩ | ⟨hlt, m, d, ⟨-, h⟩ | ⟨-, h⟩⟩
    · exact ⟨_, h, iff_of_true rfl hle, fun _ => rfl⟩
    · exact ⟨_, h, iff_of_false (by simp [hf]) hlt.not_ge, by simp [hf]⟩
    · exact ⟨_, h, iff_of_false (by simp [hf]) hlt.not_ge, by simp [hf]⟩

/-! ### A faulted core (60_exceptions.md R110) -/

/-- Settles O13: a faulted core without reset answers no next state, and a step without reset sets
RVALID or keeps it. -/
theorem onlyResetClearsFaultAndRvalid : Obligations.OnlyResetClearsFaultAndRvalid := by
  intro s t h
  cases hr : s.resetIn with
  | true => exact ⟨fun _ => rfl, fun _ _ => rfl⟩
  | false =>
    refine ⟨fun hf => ?_, fun hs ht => ?_⟩
    · cases (step_of_faulted hr hf).symm.trans h
    · rcases step_convert_or_sameResult h hr with ⟨-, _, _, _, _, -, -, hv⟩ | ⟨-, hv⟩
      · exact absurd (hv.symm.trans ht) (by decide)
      · exact absurd (hs.symm.trans (hv.symm.trans ht)) (by decide)

/-- The host's turn writes the port and nothing else (70 R137). -/
theorem exists_hostTurn_eq_port (ws : List CommandWord) (s : State) :
    ∃ p, (hostTurn ws s).2 = { s with port := p } := by
  cases ws with
  | nil => exact ⟨s.port, rfl⟩
  | cons w ws =>
    cases hp : s.port with
    | none => exact ⟨some w, by simp [hostTurn, hp, offer]⟩
    | some v =>
      have hkept : (hostTurn (w :: ws) s).2 = s := by simp [hostTurn, hp]
      exact ⟨s.port, hkept⟩

theorem runProgram_succ_of_fault {ws : List CommandWord} {s : State} {r : Fault} (n : Nat)
    (h : step (hostTurn ws s).2 = .fault r) : runProgram (n + 1) ws s = .fault r := by
  simp only [runProgram, h]

/-- Settles O9: whatever the host offers, the core stays faulted and without reset. -/
theorem faultedCoreRunsNothing : Obligations.FaultedCoreRunsNothing := by
  intro s ws n hr hf
  obtain ⟨p, hp⟩ := exists_hostTurn_eq_port ws s
  have hstuck : step (hostTurn ws s).2 = .fault (stuckFault s) := by
    rw [hp]
    exact step_of_faulted (s := { s with port := p }) hr hf
  exact runProgram_succ_of_fault n hstuck

end Sys2Proof.Machine

namespace Sys2Proof.Machine

/-! ### The interrupted fill (70 R130) -/

/-- A fill inside the buffer, from its acceptance to iteration `n` of its range: STEP is `n`, and the
iterations before it have been performed. -/
theorem runCore_fill_prefix {s : State} {l : Latch} {n : Nat} (hs : s.ready)
    (hstep : step s = .next (s.consume.beginFill l)) (hn : l.index n ≤ l.ei.toNat)
    (hlt : l.ei.toNat < s.bufLen) :
    ∃ t, runCore (n + 1) s = .next t ∧ t.status.busy = true ∧ t.stepCtr.toNat = n ∧
      Filled l n s.buf t.buf := by
  have hfits : l.fits n (s.consume.beginFill l).bufLen := Latch.fits_of_le (hn.trans hlt.le)
  have hrun := runCore_of_filling (State.ready.filling_beginFill (s := s.consume) hs l) rfl hn hfits
  refine ⟨_, (runCore_succ_of_next n hstep).trans hrun, ?_,
    toNat_stepCtr_withLatchStep _ _ (Latch.lt_of_index_le hn), filled_fillLoop hfits⟩
  obtain ⟨m, d, e⟩ := fillLoop_frame hfits
  rw [State.beginFill_latch, e]
  rfl

/-- Settles O45: after `n` fill steps the buffer holds the first `n` iterations. -/
theorem runningFillHasWrittenAPrefix : Obligations.RunningFillHasWrittenAPrefix := by
  intro s si ei sc ec n hs hn hlt
  have hle : si.toNat ≤ ei.toNat := (Nat.le_add_right _ n).trans hn
  refine ⟨fun hp => ?_, fun hp => ?_⟩
  · obtain ⟨t, hrun, hb, hctr, hfilled⟩ :=
      runCore_fill_prefix hs (step_of_fillrgb_waiting hs hp hle) hn hlt
    exact ⟨t, hrun, hb, hctr, hfilled.read_rgb rfl⟩
  · obtain ⟨t, hrun, hb, hctr, hfilled⟩ :=
      runCore_fill_prefix hs (step_of_fillhsv_waiting hs hp hle) hn hlt
    exact ⟨t, hrun, hb, hctr, fun k hk hk' => hfilled.read_hsv rfl hk hk' (hk'.le.trans hn),
      hfilled.kept⟩

/-! ### Commands that end normally (70 R128, R133) -/

@[simp] theorem convertColor_port (hue saturation value : Byte) (s : State) :
    (convertColor hue saturation value s).2.port = s.port := by
  rcases convertColor_state hue saturation value s with h | h <;> simp [h]

theorem State.ready.normalEnd {s : State} (hs : s.ready) (hp : s.port = none) :
    NormalEnd [] s := by
  obtain ⟨-, hb, hf⟩ := hs
  exact ⟨rfl, hp, hb, hf⟩

/-- A CONVERT completes in the step that accepts it, whatever its operands are. -/
theorem exec_convert_normalEnd {s : State} (hue sat v : Byte) (hs : s.ready) (hp : s.port = none) :
    ∃ t, exec (.convert hue sat v) s = .next t ∧ NormalEnd [] t := by
  obtain ⟨-, hb, hf⟩ := hs
  exact ⟨_, rfl, rfl, by simpa using hp, by simpa using hb, by simpa using hf⟩

theorem exec_wrpix_normalEnd {s : State} {k : Index} (c : Rgb) (hs : s.ready) (hp : s.port = none)
    (hlt : k.toNat < s.bufLen) : ∃ t, exec (.wrpix k c) s = .next t ∧ NormalEnd [] t :=
  ⟨_, (exec_wrpix k c s).trans (execWrpix_of_lt c hlt),
    State.ready.normalEnd (s := s.store k.toNat c) hs hp⟩

/-- The host's one turn offers the word, and the core's step consumes it. -/
theorem runProgram_one_of_exec {s t : State} {i : Instr} (hs : s.ready) (hp : s.port = none)
    (he : exec i s = .next t) : runProgram 1 [encode i] s = .next ([], t) := by
  have hturn : hostTurn [encode i] s = ([], { s with port := some (encode i) }) := by
    simp [hostTurn, hp, offer]
  have hconsumed : ({ s with port := some (encode i) } : State).consume = s := by
    rw [State.consume, ← hp]
  have hstep : step { s with port := some (encode i) } = .next t := by
    rw [step_of_ready_of_decode_ok (s := { s with port := some (encode i) }) hs rfl
      (decode_encode i), hconsumed, he]
  simp only [runProgram, hturn, hstep]

/-- Settles O10: either command completes in the step that accepts it. -/
theorem oneStepProgramsEndNormally : Obligations.OneStepProgramsEndNormally := by
  refine ⟨fun s h sat v hs hp => ?_, fun s k c hs hp hlt => ?_⟩
  · obtain ⟨t, he, hend⟩ := exec_convert_normalEnd h sat v hs hp
    exact ⟨t, runProgram_one_of_exec hs hp he, hend⟩
  · obtain ⟨t, he, hend⟩ := exec_wrpix_normalEnd c hs hp hlt
    exact ⟨t, runProgram_one_of_exec hs hp he, hend⟩

theorem runCore_one_of_exec {s t : State} {i : Instr} (hs : s.ready)
    (hp : s.port = some (encode i)) (he : exec i s.consume = .next t) :
    runCore 1 s = .next t :=
  runCore_succ_of_next 0 ((step_of_ready_of_decode_ok hs hp (decode_encode i)).trans he)

/-- A finished fill: all it has changed is BUF, LATCH, STEP and the consumed port. -/
theorem normalEnd_of_fillFrame {s t : State} (hs : s.ready)
    (h : t = { s with buf := t.buf, port := none, latch := t.latch, stepCtr := t.stepCtr }) :
    NormalEnd [] t ∧ t.draws = s.draws := by
  rw [h]
  exact ⟨State.ready.normalEnd hs rfl, rfl⟩

/-- Settles O50: CONVERT and WRPIX take one step, a fill its acceptance and at most 65536 fill
steps. -/
theorem dutifulCommandsEndNormally : Obligations.DutifulCommandsEndNormally := by
  intro s i hs hp hduty
  cases i with
  | convert hue sat v =>
    obtain ⟨t, he, hend⟩ := exec_convert_normalEnd (s := s.consume) hue sat v hs rfl
    refine ⟨1, t, by omega, runCore_one_of_exec hs hp he, hend,
      exec_draws (s := s.consume) he ?_⟩
    rintro _ _ _ ⟨⟩
    simp [hsv2rgb_of_inDomain hue hduty]
  | wrpix k c =>
    obtain ⟨t, he, hend⟩ :=
      exec_wrpix_normalEnd (s := s.consume) c hs rfl (of_decide_eq_true hduty)
    exact ⟨1, t, by omega, runCore_one_of_exec hs hp he, hend,
      exec_draws (s := s.consume) he (by simp)⟩
  | fillhsv si sc ei ec =>
    simp only [dutiesKept, Bool.and_eq_true, decide_eq_true_eq, inDomain_iff] at hduty
    obtain ⟨⟨⟨hle, hlt⟩, hsat, hval⟩, hsat', hval'⟩ := hduty
    obtain ⟨t, hrun, -, -, hframe⟩ :=
      fillhsvFillsTheRange s si ei sc ec hs hp hle hlt hsat hval hsat' hval'
    exact ⟨_, t, by omega, hrun, normalEnd_of_fillFrame hs hframe⟩
  | fillrgb si sc ei ec =>
    simp only [dutiesKept, Bool.and_eq_true, decide_eq_true_eq] at hduty
    obtain ⟨hle, hlt⟩ := hduty
    obtain ⟨t, hrun, -, hframe⟩ := fillrgbFillsTheRange s si ei sc ec hs hp hle hlt
    exact ⟨_, t, by omega, hrun, normalEnd_of_fillFrame hs hframe⟩

/-! ### The cases of the step (70 R129, R137) -/

/-- Settles O5: case (d) of 70 R137 for a legal word. -/
theorem stepRunsTheDecodedCommand : Obligations.StepRunsTheDecodedCommand :=
  fun _ _ _ hs hp hd _ => step_of_ready_of_decode_ok hs hp hd

/-- Settles O6: cases (a), (b), (c) and (e) of 70 R137. -/
theorem stepOtherThanAcceptance : Obligations.StepOtherThanAcceptance :=
  fun _ => ⟨step_of_resetIn, step_of_faulted, step_of_filling, step_of_ready_of_port_none⟩

@[simp] theorem acceptFill_port (op : Opcode) (si : Index) (sc : Triple) (ei : Index)
    (ec : Triple) (s : State) : (acceptFill op si sc ei ec s).port = s.port := by
  rcases acceptFill_cases op si sc ei ec s with ⟨-, e⟩ | ⟨-, e⟩ <;> simp [e]

@[simp] theorem fillStep_port (s : State) : (fillStep s).port = s.port := by
  obtain ⟨m, n, st, d, e, -⟩ := fillStep_frame s
  rw [e]

/-- No command touches the port: the step has consumed its word before. -/
theorem exec_next_port (i : Instr) (s : State) : ∃ t, exec i s = .next t ∧ t.port = s.port := by
  rcases exec_cases i s with ⟨hue, sat, v, -, e⟩ | ⟨k, c, -, -, e⟩ | ⟨k, c, -, -, e⟩ |
      ⟨si, sc, ei, ec, -, e⟩ | ⟨si, sc, ei, ec, -, e⟩ <;>
    exact ⟨_, e, by simp⟩

/-- Settles O8: the fill step keeps the port, and a word is consumed whether it is legal or not. -/
theorem waitingWordIsKeptThenConsumed : Obligations.WaitingWordIsKeptThenConsumed := by
  refine ⟨fun s hs => ⟨_, step_of_filling hs, fillStep_port s⟩, fun s w hs hp => ?_⟩
  cases hd : decode w with
  | ok i =>
    obtain ⟨t, he, hport⟩ := exec_next_port i s.consume
    exact ⟨t, (step_of_ready_of_decode_ok hs hp hd).trans he, hport⟩
  | error e => exact ⟨_, step_of_ready_of_decode_error hs hp hd, rfl⟩

/-! ### Reset, launch and RESULT (70 R123, R126, R132) -/

theorem Status.word_cleared : Status.cleared.word = 0 := by decide

/-- Settles O14: the fields of `resetCore`. -/
theorem resetStepClearsStatusAndKeepsBuffer : Obligations.ResetStepClearsStatusAndKeepsBuffer :=
  fun _ hr => ⟨_, step_of_resetIn hr, Status.word_cleared, extractLsb'_resultWord _, rfl, rfl, rfl,
    fun _ => rfl⟩

/-- Settles O53: STATUS and RESULT of a launch state are 0. -/
theorem launchHasTheInvariant : Obligations.LaunchHasTheInvariant :=
  fun _ _ hpos hle hwf hbelow => .of_cleared hpos hle hwf hbelow (by simp) rfl

theorem readResult_of_rvalid {s : State} (h : s.status.rvalid = true) :
    readResult s = some s.result := by
  simp [readResult, h]

theorem readResult_of_not_rvalid {s : State} (h : s.status.rvalid = false) :
    readResult s = none := by
  simp [readResult, h]

theorem readResult_returnColor (c : Rgb) (s : State) :
    readResult (s.returnColor c) = some ((0 : BitVec 8) ++ c.c0 ++ c.c1 ++ c.c2) :=
  (readResult_of_rvalid rfl).trans (congrArg some (append_pack24 0 c))

/-- Settles O18: a specified conversion is returned in RESULT with RVALID set. -/
theorem resultIsReadableAfterConvert : Obligations.ResultIsReadableAfterConvert := by
  refine ⟨fun s => readResult_of_not_rvalid, fun s w h sat v c hs hp hd hc => ?_⟩
  exact ⟨_, (step_of_ready_of_decode_ok hs hp hd).trans (exec_convert_of_some s.consume hc),
    readResult_returnColor c s.consume⟩

/-! ### The host's store (70 R131) -/

theorem inFill_iff {k : Nat} {s : State} :
    inFill k s = true ↔
      s.status.busy = true ∧ s.latch.si.toNat ≤ k ∧ k ≤ s.latch.ei.toNat := by
  simp [inFill, and_assoc]

/-- Settles O58, by the three outcomes of the host's store. -/
theorem hostStoreKeepsOutOfTheFill : Obligations.HostStoreKeepsOutOfTheFill := by
  intro s k c
  rcases hostStore_cases k c s with ⟨hle, e⟩ | ⟨hlt, hin, e⟩ | ⟨hlt, hout, e⟩
  · exact ⟨fun _ => e, fun hlt => absurd hlt hle.not_gt, fun hlt => absurd hlt hle.not_gt⟩
  · obtain ⟨hb, hsi, hei⟩ := inFill_iff.mp hin
    refine ⟨fun hle => absurd hlt hle.not_gt, fun _ _ _ _ => e, fun _ hfree => ?_⟩
    rcases hfree with hidle | hbefore | hafter
    · exact absurd (hb.symm.trans hidle) (by decide)
    · exact absurd hsi hbefore.not_ge
    · exact absurd hei hafter.not_ge
  · refine ⟨fun hle => absurd hlt hle.not_gt, fun _ hb hsi hei => ?_, fun _ _ => ?_⟩
    · exact absurd (hout.symm.trans (inFill_iff.mpr ⟨hb, hsi, hei⟩)) (by decide)
    · exact ⟨_, e, rfl, fun j => s.read_store_buf k j c⟩

end Sys2Proof.Machine
